-- ==== Sys2Proof/Word.lean ====
section
/-! DEFINITION. The word types of the block: command words and samples (00_scope.md R8, 20_memory.md R57). -/

namespace Sys2Proof

/-- A command word, `cmd_data[31:0]` (R56, R71): `CMD_WIDTH` is 32 bits (R8). -/
abbrev Word := BitVec 32

/-- One unsigned 8-bit PCM sample with bias 128 (R8 `SAMPLE_BITS`, R55). -/
abbrev Sample := BitVec 8

/-- One byte of a command word carried over a narrower bus (R52). -/
abbrev Byte := BitVec 8

end Sys2Proof
end

