-- ==== Sys2Proof/Config.lean ====
section
/-! DEFINITION. The parameters an implementation fixes: the structural constants of 00_scope.md R6 and R8, the build
parameter `SINE_TIE_LOW` of 40_waveform.md R102, and the host's own parameters of R9, two of which the spec leaves OPEN. -/

namespace Sys2Proof.Config

/-- `SAMPLE_RATE` = 43200 samples per second, a build-time constant no command reads or writes (R6, R161; log 7). -/
def sampleRate : Nat := 43200

/-- `SINE_ENTRIES` = 360, one entry per degree (R8). -/
def sineEntries : Nat := 360

/-- `DC_BIAS` = 128, zero amplitude (R8). -/
def dcBias : Sample := 128#8

/-- `F_SPACE` = 1200 Hz, the nominal frequency of a 0 bit (R8). -/
def fSpace : Nat := 1200

/-- `F_MARK` = 2400 Hz, the nominal frequency of a 1 bit (R8). -/
def fMark : Nat := 2400

/-- The largest count the 28-bit operand of `SILENCE` and `SYNC` holds, 2^28 - 1 (R8 `OPERAND_WIDTH`, R73). -/
def maxCount : Nat := 268435455

/-- `SINE_TIE_LOW` ∈ {64, 65}: the value of `ROM[210]` and `ROM[330]`, whose rounding the source leaves open (R102, D7).
R102 takes 64; the other reading is a named parameter of the model (log 6). -/
inductive SineTieLow where
  /-- 64: the value R102 takes (IEEE double evaluation of the formula). -/
  | tie64
  /-- 65: the alternative reading (exact value, halves away from zero). -/
  | tie65
deriving DecidableEq, Repr

/-- `LONG_GAP` = 2 seconds of silence = 86400 samples (R9, D20): a host parameter. -/
def longGap : BitVec 28 := 86400#28

/-- `SHORT_GAP` = 1 second of silence = 43200 samples (R9, D20): a host parameter. -/
def shortGap : BitVec 28 := 43200#28

/-- `INITIAL_SYNC_BITS`, a host parameter the spec leaves OPEN: a non-negative integer below 2^28 (R9, D19; log 12).
It has no body: nothing in Lean can tell its value. -/
opaque initialSyncBits : BitVec 28

/-- `BLOCK_SYNC_BITS`, a host parameter the spec leaves OPEN: a non-negative integer below 2^28 (R9, D19; log 12). -/
opaque blockSyncBits : BitVec 28

end Sys2Proof.Config
end

