-- ==== Sys2Proof/Syntax.lean ====
section
/-! DEFINITION. Syntax: the six commands of the block (30_encoding.md R71, R72; one constructor per row of
spec/opcode_table.json), the causes of rejection (60_exceptions.md R171), and the assembler's lines with its
pseudo-commands (R81 to R84). -/

namespace Sys2Proof

/-- A command of `FSKMOD-CMD`. Each operand has the width of its field (R71, R73), so every `Instr` is a legal command. -/
inductive Instr where
  /-- `SILENCE N`: `N` samples of zero amplitude (R110). -/
  | silence (n : BitVec 28)
  /-- `PULSE F`: one sine cycle; `F` = 0 selects 1200 Hz, 1 selects 2400 Hz (R115). -/
  | pulse (f : BitVec 1)
  /-- `BIT V`: one bit (R135). -/
  | bit (v : BitVec 1)
  /-- `BYTE D`: one serial frame (R140). -/
  | byte (d : BitVec 8)
  /-- `SYNC N`: a tone of `N` base bits (R150). -/
  | sync (n : BitVec 28)
  /-- `SETBAUD B`: `B` = 0 selects 1200 baud, 1 selects 2400 baud (R160). -/
  | setbaud (b : BitVec 1)
deriving DecidableEq, Repr

/-- Why a word is rejected (R171). Code 3 is reserved and never raised, so it is no constructor. -/
inductive Cause where
  /-- Code 1, `ILLEGAL_OPCODE`: `OP` is 0x0 or 0x7 to 0xF (R74). -/
  | illegalOpcode
  /-- Code 2, `RESERVED_BITS`: a legal `OP` with a 1 in a reserved operand bit (R75). -/
  | reservedBits
deriving DecidableEq, Repr

/-- A line of assembler source (R81), pseudo-commands among them (R82, R83, R84). Operands are written as plain
numbers: their ranges are checked by `AsmLine.wellFormed`, since an operand outside its range is an assembly error. -/
inductive AsmLine where
  /-- `SILENCE n`; above 2^28 - 1 it is the pseudo-command of R84. -/
  | silence (n : Nat)
  /-- `PULSE 1200` or `PULSE 2400`: the operand is the frequency, not the selector bit. -/
  | pulse (hz : Nat)
  /-- `BIT 0` or `BIT 1`. -/
  | bit (v : Nat)
  /-- `BYTE d`, 0 to 255. -/
  | byte (d : Nat)
  /-- `SYNC n`; above 2^28 - 1 it is the pseudo-command of R84. -/
  | sync (n : Nat)
  /-- `SETBAUD 1200` or `SETBAUD 2400`: the operand is the rate, not the selector bit. -/
  | setbaud (rate : Nat)
  /-- `.word w`: any 32-bit value. -/
  | rawWord (w : Nat)
  /-- `BYTES d0, d1, ..., dk` (R82). -/
  | bytes (ds : List Nat)
  /-- `PREAMBLE_LONG` (R83). -/
  | preambleLong
  /-- `PREAMBLE_SHORT` (R83). -/
  | preambleShort
deriving DecidableEq, Repr

end Sys2Proof
end

