-- ==== Sys2Proof/WellFormed.lean ====
section
/-! DEFINITION. Well-formedness. An `Instr` is well formed by its type: each operand is a bit vector of its field's
width (30_encoding.md R71, R73). What needs a check is the assembler's source, whose operands are plain numbers:
"An operand outside its range is an assembly error, not a word" (R81). -/

namespace Sys2Proof

/-- The operand of an assembler line is in the range R81 gives it. `SILENCE n` and `SYNC n` take any `n`: above
2^28 - 1 the line is the pseudo-command of R84 (log 15). -/
def AsmLine.wellFormed : AsmLine → Bool
  | .silence _ => true
  | .pulse hz => hz == 1200 || hz == 2400
  | .bit v => v == 0 || v == 1
  | .byte d => decide (d ≤ 255)
  | .sync _ => true
  | .setbaud rate => rate == 1200 || rate == 2400
  | .rawWord w => decide (w < 4294967296)
  | .bytes ds => ds.all fun d => decide (d ≤ 255)
  | .preambleLong => true
  | .preambleShort => true

end Sys2Proof
end

