-- ==== Sys2Proof/Decode.lean ====
section
/-! DEFINITION. The decoder, total on all 2^32 words (30_encoding.md R77), the encoder (R71, R72), the codes of the
causes (60_exceptions.md R171), and the layout of a command word on a narrower bus (20_memory.md R52). -/

namespace Sys2Proof

/-- `v[lo + len - 1 : lo]`, the field of `len` bits from bit `lo` up (R11). -/
def bitField {n : Nat} (v : BitVec n) (lo len : Nat) : BitVec len := v.extractLsb' lo len

/-- `v[i]`, bit `i` of `v` as a one-bit value (R11). -/
def bitAt {n : Nat} (v : BitVec n) (i : Nat) : BitVec 1 := v.extractLsb' i 1

/-- `OP` = `cmd[31:28]` (R71). -/
def opField (w : Word) : BitVec 4 := bitField w 28 4

/-- `ARG` = `cmd[27:0]` (R71). -/
def argField (w : Word) : BitVec 28 := bitField w 0 28

/-- The decoder of R77: the opcode is checked before the reserved bits. -/
def decode (w : Word) : Except Cause Instr :=
  if opField w = 0x1#4 then .ok (.silence (argField w))
  else if opField w = 0x2#4 then
    if bitField w 1 27 ≠ 0#27 then .error .reservedBits else .ok (.pulse (bitAt w 0))
  else if opField w = 0x3#4 then
    if bitField w 1 27 ≠ 0#27 then .error .reservedBits else .ok (.bit (bitAt w 0))
  else if opField w = 0x4#4 then
    if bitField w 8 20 ≠ 0#20 then .error .reservedBits else .ok (.byte (bitField w 0 8))
  else if opField w = 0x5#4 then .ok (.sync (argField w))
  else if opField w = 0x6#4 then
    if bitField w 1 27 ≠ 0#27 then .error .reservedBits else .ok (.setbaud (bitAt w 0))
  else .error .illegalOpcode

/-- The word of a command: `OP` in bits 31:28, reserved bits 0, the operand in the low bits (R71, R72, R81). -/
def encode : Instr → Word
  | .silence n => 0x10000000#32 ||| n.setWidth 32
  | .pulse f => 0x20000000#32 ||| f.setWidth 32
  | .bit v => 0x30000000#32 ||| v.setWidth 32
  | .byte d => 0x40000000#32 ||| d.setWidth 32
  | .sync n => 0x50000000#32 ||| n.setWidth 32
  | .setbaud b => 0x60000000#32 ||| b.setWidth 32

/-- The code of a cause in `ERR_CODE` (R26, R171). -/
def Cause.code : Cause → BitVec 2
  | .illegalOpcode => 1#2
  | .reservedBits => 2#2

/-- The four bytes of a command word in the order a narrower bus carries them: least significant first (R52). -/
def bytesOfWord (w : Word) : List Byte :=
  [bitField w 0 8, bitField w 8 8, bitField w 16 8, bitField w 24 8]

/-- The command word four bytes carry, the first byte least significant (R52). Any other number of bytes is no
word: every command is exactly one 32-bit word (R54, R79). -/
def wordOfBytes : List Byte → Option Word
  | [b0, b1, b2, b3] => some (b3 ++ b2 ++ b1 ++ b0)
  | _ => none

/-- The decoder on any bytes: `none` where they are not one whole word, else the decoder's answer (R52, R77). -/
def decodeBytes (bs : List Byte) : Option (Except Cause Instr) :=
  (wordOfBytes bs).map decode

/-- The word of an opcode-table entry of `nbits` bits: every bit from `nbits` up is 0. -/
def tableWord (nbits w : Nat) : Word := BitVec.ofNat 32 (w % 2 ^ nbits)

/-- The instruction the decoder reads from the table's word, laid out as bytes least significant first (R52). -/
def decodeTableWord (nbits w : Nat) : Option Instr :=
  match decodeBytes (bytesOfWord (tableWord nbits w)) with
  | some (.ok i) => some i
  | some (.error _) => none
  | none => none

end Sys2Proof
end

