-- ==== Sys2Proof/Machine/State.lean ====
section
/-! DEFINITION. The state of the block as plain data (10_state.md R20 to R41), what a step can end in, the state after
reset (R41, R200), and the plain record updates the operations are built from. -/

namespace Sys2Proof.Machine

/-- The levels of the block's input ports at one rising edge of `clk` (20_memory.md R59). -/
structure Pins where
  /-- `rst`: synchronous reset, active high (R200). -/
  rst : Bool
  /-- `cmd_valid`: the host offers `cmd_data` (R56). -/
  cmdValid : Bool
  /-- `cmd_data[31:0]` (R56). -/
  cmdData : Word
  /-- `smp_ready`: the host takes the sample (R55). -/
  smpReady : Bool
deriving DecidableEq, Repr

/-- All inputs low: what the host drives when it sends nothing and takes nothing (log 1). -/
def Pins.quiet : Pins := { rst := false, cmdValid := false, cmdData := 0#32, smpReady := false }

/-- The machine's state. The registers are the reference registers of R30 to R36 with the four named items of R22;
`PENDING`, `IDLE`, `STATUS` and `ERRCMD` are functions of them (R23, R28, R29, R37). -/
structure State where
  /-- `BAUD_SEL` (R24): 0 = 1200 baud, 1 = 2400 baud. -/
  baudSel : BitVec 1
  /-- `ERR` (R25): sticky error flag. -/
  err : BitVec 1
  /-- `ERR_CODE` (R26): cause of the first rejected command since reset. -/
  errCode : BitVec 2
  /-- `ERR_CMD` (R27): word of the first rejected command since reset. -/
  errCmd : Word
  /-- `MODE` (R30): 0 `M_IDLE`, 1 `M_SILENCE`, 2 `M_TONE`, 3 never written. -/
  mode : BitVec 2
  /-- `SIL_LEFT` (R31): silence samples still to emit. -/
  silLeft : BitVec 28
  /-- `BITS_LEFT` (R32): bits still to send after the current bit. -/
  bitsLeft : BitVec 29
  /-- `SHIFT` (R33): the frame shift register. -/
  shift : BitVec 11
  /-- `CUR_F` (R34): frequency selector of the pulse being emitted. -/
  curF : BitVec 1
  /-- `PULSES_LEFT` (R35): pulses still to emit in the current bit after the current pulse. -/
  pulsesLeft : BitVec 1
  /-- `K` (R36): index, within the current pulse, of the next sample. -/
  k : BitVec 6
  /-- The model's own: the build parameter `SINE_TIE_LOW` (R102; log 6). No step changes it. -/
  sineTieLow : Config.SineTieLow
  /-- The model's own: a reset edge has been seen since power-up (R202; log 5). -/
  resetDone : Bool
  /-- The model's own: the input levels at the coming rising edges, next edge first (R59; log 1). -/
  inputs : List Pins
  /-- The model's own: the samples transferred since the last reset, in order (R61, R189; log 4). -/
  sent : List Sample
deriving DecidableEq, Repr

/-- Why the machine stops. Each is a treatment 93_implementation_defined.md asks for. -/
inductive Fault where
  /-- Raised by an edge or an observation that looks at the block before its first reset edge: "A model gives the
  state before the first reset no value and treats any observation of it as a fault" (R202). Safe (log 5). -/
  | beforeReset
  /-- Raised when `MODE` = 3 is reached, a value never written (R30). Safe: no run from reset reaches it (log 9). -/
  | modeReserved
  /-- Raised when `ERR_CODE` = 3 is observed, a value never written (R26). Safe: no run reaches it (log 10). -/
  | errCodeReserved
  /-- Raised when a ROM index above 359 is formed; what it would read is not specified (R51). Safe: no run reaches
  it (R107; log 11). -/
  | romAddress
deriving DecidableEq, Repr

/-- Why the model gives no meaning. -/
inductive Refusal where
  /-- An instruction without a meaning yet, by its mnemonic: raised by no arm of this model. Safe. -/
  | notModelled (mnemonic : String)
  /-- The block instantiated at a `SAMPLE_RATE` other than 43200: "a model is to refuse any other value" (R6, D8).
  Raised by `instantiate` only. Safe (log 7). -/
  | sampleRate
deriving DecidableEq, Repr

/-- `MODE` value `M_IDLE` (R30). -/
def M_IDLE : BitVec 2 := 0#2

/-- `MODE` value `M_SILENCE` (R30). -/
def M_SILENCE : BitVec 2 := 1#2

/-- `MODE` value `M_TONE` (R30). -/
def M_TONE : BitVec 2 := 2#2

/-- The machine right after reset: every register at the value of R41. -/
def State.reset : State where
  baudSel := 0#1
  err := 0#1
  errCode := 0#2
  errCmd := 0x00000000#32
  mode := M_IDLE
  silLeft := 0#28
  bitsLeft := 0#29
  shift := 0#11
  curF := 0#1
  pulsesLeft := 0#1
  k := 0#6
  sineTieLow := .tie64
  resetDone := true
  inputs := []
  sent := []

/-- `BAUD_SEL <- b`. -/
def State.setBaudSel (s : State) (b : BitVec 1) : State := { s with baudSel := b }

/-- `ERR <- 1; ERR_CODE <- c; ERR_CMD <- w`. -/
def State.setError (s : State) (c : BitVec 2) (w : Word) : State := { s with err := 1#1, errCode := c, errCmd := w }

/-- `MODE <- M_SILENCE; SIL_LEFT <- n`. -/
def State.startSilence (s : State) (n : BitVec 28) : State := { s with mode := M_SILENCE, silLeft := n }

/-- `MODE <- M_TONE; CUR_F <- f; PULSES_LEFT <- p; BITS_LEFT <- m; K <- 0`. -/
def State.startTone (s : State) (f p : BitVec 1) (m : BitVec 29) : State :=
  { s with mode := M_TONE, curF := f, pulsesLeft := p, bitsLeft := m, k := 0#6 }

/-- `SHIFT <- v`. -/
def State.setShift (s : State) (v : BitVec 11) : State := { s with shift := v }

/-- `MODE <- m`. -/
def State.setMode (s : State) (m : BitVec 2) : State := { s with mode := m }

/-- `SIL_LEFT <- n`. -/
def State.setSilLeft (s : State) (n : BitVec 28) : State := { s with silLeft := n }

/-- `K <- n`. -/
def State.setK (s : State) (n : BitVec 6) : State := { s with k := n }

/-- `PULSES_LEFT <- p`. -/
def State.setPulsesLeft (s : State) (p : BitVec 1) : State := { s with pulsesLeft := p }

/-- `BITS_LEFT <- m`. -/
def State.setBitsLeft (s : State) (m : BitVec 29) : State := { s with bitsLeft := m }

/-- `CUR_F <- f`. -/
def State.setCurF (s : State) (f : BitVec 1) : State := { s with curF := f }

/-- Appends `x` to the record of transferred samples (R61). -/
def State.pushSent (s : State) (x : Sample) : State := { s with sent := s.sent ++ [x] }

/-- Replaces what the host will drive at the coming edges. -/
def State.setInputs (s : State) (ps : List Pins) : State := { s with inputs := ps }

/-- Replaces the build parameter `SINE_TIE_LOW`. -/
def State.setSineTieLow (s : State) (t : Config.SineTieLow) : State := { s with sineTieLow := t }

/-- Replaces the record that a reset edge has been seen. -/
def State.setResetDone (s : State) (b : Bool) : State := { s with resetDone := b }

end Sys2Proof.Machine
end

