-- ==== Sys2Proof/Machine/Operands.lean ====
section
/-! DEFINITION. What operands and selectors stand for: frequencies, rates, pulse lengths, the named sample sequences
`P(L)`, `BITSEQ(b)` and `T_BIT` (00_scope.md R14), the frame of a byte, the bit count of a sync tone, and the sample
sequence `S(c)` of a command (20_memory.md R61). -/

namespace Sys2Proof.Machine

/-- `BAUD`: the rate in baud that `BAUD_SEL` selects (R24). -/
def baudOf (b : BitVec 1) : Nat := if b = 0#1 then 1200 else 2400

/-- The nominal frequency a selector chooses (R73, R115). -/
def freqOf (f : BitVec 1) : Nat := if f = 0#1 then Config.fSpace else Config.fMark

/-- The general formula of R105: `floor(SAMPLE_RATE * 1200 / (BAUD * f))`. -/
def pulseLenAt (rate baud f : Nat) : Nat := rate * 1200 / (baud * f)

/-- `pulse_len(BAUD, f)` at the block's `SAMPLE_RATE`, for a baud selection and a frequency selector (R105). -/
def pulseLen (b f : BitVec 1) : Nat := pulseLenAt Config.sampleRate (baudOf b) (freqOf f)

/-- The ROM index of sample `k` of a pulse of `L` samples: `floor(k * 360 / L)` (R106). -/
def romIndex (k L : Nat) : Nat := k * 360 / L

/-- Within a pulse the index never leaves 0..359 (R107). -/
theorem romIndex_lt {k L : Nat} (h : k < L) : romIndex k L < 360 :=
  Nat.div_lt_of_lt_mul (Nat.mul_lt_mul_of_pos_right h (by decide))

/-- `P(L)`: one sine cycle of `L` samples, from index 0 (R106, R109). -/
def pulseWave (tie : Config.SineTieLow) (L : Nat) : List Sample :=
  List.ofFn fun k : Fin L => romEntry tie ⟨romIndex k.val L, romIndex_lt k.isLt⟩

/-- `BITSEQ(v)` at a baud selection: one long pulse for 0, two short pulses for 1 (R130, R131). -/
def bitSeq (tie : Config.SineTieLow) (b v : BitVec 1) : List Sample :=
  if v = 0#1 then pulseWave tie (pulseLen b 0#1)
  else pulseWave tie (pulseLen b 1#1) ++ pulseWave tie (pulseLen b 1#1)

/-- `T_BIT` = `SAMPLE_RATE / BAUD`: the samples of one bit-time (R133). -/
def bitTime (b : BitVec 1) : Nat := Config.sampleRate / baudOf b

/-- The 11 bits of a frame, bit 0 sent first: start bit 0, the data byte, two stop bits 1 (R140). -/
def frameOf (d : BitVec 8) : BitVec 11 := 0b11#2 ++ d ++ 0#1

/-- The samples of a frame: `concat_{j=0..10} BITSEQ(frame[j])` (R140). -/
def frameSeq (tie : Config.SineTieLow) (b : BitVec 1) (frame : BitVec 11) : List Sample :=
  (List.range 11).flatMap fun j => bitSeq tie b (bitAt frame j)

/-- `M = N * BAUD / 1200`: the one bits of a sync tone of base count `N` (R150, R151). -/
def syncCount (b : BitVec 1) (n : BitVec 28) : Nat := n.toNat * baudOf b / 1200

/-- `repeat(n, s)` (R12). -/
def repeatSeq (n : Nat) (s : List Sample) : List Sample := (List.replicate n s).flatten

/-- `S(c)`: the samples the rule of a command emits at the baud selection in force when it is accepted (R61; R110, R115,
R135, R140, R150, R160). -/
def commandSamples (tie : Config.SineTieLow) (b : BitVec 1) : Instr → List Sample
  | .silence n => repeatSeq n.toNat [Config.dcBias]
  | .pulse f => pulseWave tie (pulseLen b f)
  | .bit v => bitSeq tie b v
  | .byte d => frameSeq tie b (frameOf d)
  | .sync n => repeatSeq (syncCount b n) (bitSeq tie b 1#1)
  | .setbaud _ => []

/-- `S(w)` of a word: that of its command, and `[]` for a rejected word (R61). -/
def wordSamples (tie : Config.SineTieLow) (b : BitVec 1) (w : Word) : List Sample :=
  match decode w with
  | .ok i => commandSamples tie b i
  | .error _ => []

/-- The baud selection after a word: only an accepted `SETBAUD` changes it (R24, R160). -/
def baudAfter (b : BitVec 1) (w : Word) : BitVec 1 :=
  match decode w with
  | .ok (.setbaud b') => b'
  | _ => b

end Sys2Proof.Machine
end

