-- ==== Sys2Proof/Machine/Flags.lean ====
section
/-! DEFINITION. The flags and status words, all functions of the registers: `IDLE` (10_state.md R23), `STATUS` (R28),
`ERRCMD` (R29), `irq` (60_exceptions.md R176), and the handshake outputs (20_memory.md R55, R56; R185, R201). -/

namespace Sys2Proof.Machine

/-- `IDLE` (R23), read from `MODE` as the reference registers hold it (R30, R37, R38; log 3). -/
def State.idle (s : State) : Bool := decide (s.mode = M_IDLE)

/-- `STATUS`: `IDLE` at bit 0, `ERR` at bit 1, `ERR_CODE` at 3:2, `BAUD_SEL` at bit 4, 31:5 read as 0 (R28). -/
def State.statusWord (s : State) : Word :=
  0#27 ++ s.baudSel ++ s.errCode ++ s.err ++ BitVec.ofBool s.idle

/-- `ERRCMD` drives `ERR_CMD` (R29). -/
def State.errcmdWord (s : State) : Word := s.errCmd

/-- `irq` = `ERR` at all times, a level (R176). -/
def State.irq (s : State) : Bool := decide (s.err = 1#1)

/-- `cmd_ready` = 1 exactly when `IDLE` = 1 and `rst` = 0 (R185). -/
def State.cmdReady (s : State) (rst : Bool) : Bool := s.idle && !rst

/-- `smp_valid` = 1 exactly when `IDLE` = 0 (R55), and 0 while `rst` = 1 (R201; log 8). -/
def State.smpValid (s : State) (rst : Bool) : Bool := !s.idle && !rst

end Sys2Proof.Machine
end

