-- ==== Sys2Proof/Machine/Ops.lean ====
section
/-! DEFINITION. The shared operations: loading a command into the registers (the pseudocode of R110, R115, R135, R140,
R150), rejecting a word (60_exceptions.md R173, the block's one exception), the sample step (10_state.md R38), the
abstraction to `PENDING` (R37), the reset edge (70_reset_and_hazards.md R200), and what one rising edge does
(60_exceptions.md R178). -/

namespace Sys2Proof.Machine

/-- The input levels at the next rising edge; all low where the host drives nothing more (log 1). -/
def State.pins (s : State) : Pins := s.inputs.headD Pins.quiet

/-- The state with the next edge's input levels used up. -/
def State.popInput (s : State) : State := s.setInputs s.inputs.tail

/-- The length of the pulse being emitted, `pulse_len(BAUD, CUR_F)` (R36). -/
def State.curLen (s : State) : Nat := pulseLen s.baudSel s.curF

/-- Loads a run of `n` silence samples: nothing where `n` = 0 (R110). -/
def State.loadSilence (s : State) (n : BitVec 28) : State := if n = 0#28 then s else s.startSilence n

/-- Loads a run of bits whose first is `f`, with `m` bits after it: a 1 bit has two short pulses (R34, R35, R131). -/
def State.loadBits (s : State) (shift : BitVec 11) (f : BitVec 1) (m : BitVec 29) : State :=
  (s.setShift shift).startTone f f m

/-- Loads one pulse; `SHIFT` is not written (R115). -/
def State.loadPulse (s : State) (f : BitVec 1) : State := s.startTone f 0#1 0#29

/-- Loads `M` one bits: nothing where `M` = 0 (R150). -/
def State.loadOnes (s : State) (m : Nat) : State :=
  if m = 0 then s else s.loadBits 0x7FF#11 1#1 (BitVec.ofNat 29 (m - 1))

/-- Taking the block's one exception, `raise CmdError(code, w)` (R173): the first rejection since reset is recorded, a
later one changes nothing (R175, R176). Nothing is saved, no mode changes and there is no return (R174, R176). -/
def raiseCmdError (c : Cause) (w : Word) (s : State) : Host.Outcome State Fault Refusal :=
  .next (if s.err = 0#1 then s.setError c.code w else s)

/-- The sample the block presents on `smp_data` (R38); 128 while idle (R55). -/
def State.presented (s : State) : Except Fault Sample :=
  if s.mode = M_SILENCE then .ok Config.dcBias
  else if s.mode = M_TONE then romRead s.sineTieLow (romIndex s.k.toNat s.curLen)
  else if s.mode = M_IDLE then .ok Config.dcBias
  else .error .modeReserved

/-- R38 on transfer in `M_SILENCE`. -/
def State.tickSilence (s : State) : State :=
  if s.silLeft - 1#28 = 0#28 then (s.setSilLeft (s.silLeft - 1#28)).setMode M_IDLE
  else s.setSilLeft (s.silLeft - 1#28)

/-- `{1, SHIFT[10:1]}`: the shift register after a bit completes (R33). -/
def shiftNext (v : BitVec 11) : BitVec 11 := 1#1 ++ bitField v 1 10

/-- The next bit of the frame becomes the current one (R38). -/
def State.nextBit (s : State) : State :=
  ((((s.setK 0#6).setBitsLeft (s.bitsLeft - 1#29)).setShift (shiftNext s.shift)).setCurF
    (bitAt (shiftNext s.shift) 0)).setPulsesLeft (bitAt (shiftNext s.shift) 0)

/-- R38 on transfer in `M_TONE`. -/
def State.tickTone (s : State) : State :=
  if s.k.toNat < s.curLen - 1 then s.setK (s.k + 1#6)
  else if s.pulsesLeft = 1#1 then (s.setK 0#6).setPulsesLeft 0#1
  else if s.bitsLeft ≠ 0#29 then s.nextBit
  else (s.setK 0#6).setMode M_IDLE

/-- The register update of R38 when the presented sample is transferred. -/
def State.advance (s : State) : State :=
  if s.mode = M_SILENCE then s.tickSilence
  else if s.mode = M_TONE then s.tickTone
  else s

/-- A sample transfer (R55): the presented sample joins the stream and the registers advance. -/
def transfer (s : State) : Host.Outcome State Fault Refusal :=
  match s.presented with
  | .ok x => .next (s.advance.pushSent x)
  | .error f => .fault f

/-- `bitv(j)` of R37: bit `j` of `SHIFT` for 1 ≤ j ≤ 10, else 1. -/
def bitv (shift : BitVec 11) (j : Nat) : BitVec 1 := if 1 ≤ j ∧ j ≤ 10 then bitAt shift j else 1#1

/-- `PENDING` in mode `M_TONE` (R37): the rest of the current pulse, the second pulse of a 1 bit if it is still to
come, and the bits after the current one. -/
def State.tonePending (s : State) : List Sample :=
  (pulseWave s.sineTieLow s.curLen).drop s.k.toNat
    ++ (if s.pulsesLeft = 1#1 then pulseWave s.sineTieLow s.curLen else [])
    ++ (List.range s.bitsLeft.toNat).flatMap fun j => bitSeq s.sineTieLow s.baudSel (bitv s.shift (j + 1))

/-- `PENDING` (R22): the samples of the accepted command not yet transferred, by the map of R37. -/
def State.pending (s : State) : List Sample :=
  if s.mode = M_SILENCE then repeatSeq s.silLeft.toNat [Config.dcBias]
  else if s.mode = M_TONE then s.tonePending
  else []

/-- The reset edge (R200): every state item takes its value of R41 and the record of transferred samples starts anew
(R189). The ROM, and so `SINE_TIE_LOW`, is not affected; what the host will drive later is the host's. -/
def State.applyReset (s : State) : State :=
  (State.reset.setSineTieLow s.sineTieLow).setInputs s.inputs

/-- What a rising edge of `clk` does, in the priority order of R178. -/
inductive Edge where
  /-- `rst` = 1: reset overrides everything (R178, R200). -/
  | reset
  /-- A sample is transferred (R55). -/
  | transfer
  /-- A command word is accepted (R56, R185). -/
  | accept (w : Word)
  /-- Nothing is transferred: the block holds its state (R58, R186). -/
  | hold
deriving DecidableEq, Repr

/-- The event of the next rising edge. Before the first reset edge a handshake would look at outputs that have no
value (R202; log 5); `MODE` = 3 is never reached (R30; log 9). -/
def edgeOf (s : State) : Except Fault Edge :=
  if s.pins.rst then .ok .reset
  else if s.resetDone = false then
    if s.pins.cmdValid || s.pins.smpReady then .error .beforeReset else .ok .hold
  else if s.mode = 3#2 then .error .modeReserved
  else if s.smpValid false && s.pins.smpReady then .ok .transfer
  else if s.cmdReady false && s.pins.cmdValid then .ok (.accept s.pins.cmdData)
  else .ok .hold

end Sys2Proof.Machine
end

