-- ==== Sys2Proof/Machine/Baud.lean ====
section
/-! DEFINITION. The configuration command `SETBAUD` (42_config.md R160). -/

namespace Sys2Proof.Machine

/-- `SETBAUD B` (R160): `BAUD_SEL <- B`; emits nothing. -/
def execSetbaud (b : BitVec 1) (s : State) : Host.Outcome State Fault Refusal := .next (s.setBaudSel b)

end Sys2Proof.Machine
end

