-- ==== Sys2Proof/Machine/Framing.lean ====
section
/-! DEFINITION. The bit and framing commands `BIT` (41_framing.md R135), `BYTE` (R140) and `SYNC` (R150). -/

namespace Sys2Proof.Machine

/-- `BIT V` (R135): `Emit(BITSEQ(V))`. -/
def execBit (v : BitVec 1) (s : State) : Host.Outcome State Fault Refusal :=
  .next (s.loadBits (v.setWidth 11) v 0#29)

/-- `BYTE D` (R140): one frame, start bit first, ten bits after it. The value of `D` is never interpreted (R53). -/
def execByte (d : BitVec 8) (s : State) : Host.Outcome State Fault Refusal :=
  .next (s.loadBits (frameOf d) 0#1 10#29)

/-- `SYNC N` (R150): `M = N * BAUD / 1200` one bits; `N` = 0 changes nothing. -/
def execSync (n : BitVec 28) (s : State) : Host.Outcome State Fault Refusal :=
  .next (s.loadOnes (syncCount s.baudSel n))

end Sys2Proof.Machine
end

