-- ==== Sys2Proof/Machine/Waveform.lean ====
section
/-! DEFINITION. The waveform commands `SILENCE` (40_waveform.md R110) and `PULSE` (R115). -/

namespace Sys2Proof.Machine

/-- `SILENCE N` (R110): `Emit(repeat(N, [128]))`; `N` = 0 changes nothing. The baud rate has no effect on it. -/
def execSilence (n : BitVec 28) (s : State) : Host.Outcome State Fault Refusal := .next (s.loadSilence n)

/-- `PULSE F` (R115): `Emit(P(pulse_len(BAUD, f)))`. -/
def execPulse (f : BitVec 1) (s : State) : Host.Outcome State Fault Refusal := .next (s.loadPulse f)

end Sys2Proof.Machine
end

