-- ==== Sys2Proof/Machine/Dispatch.lean ====
section
/-! DEFINITION. One arm per command: the whole opcode map of 30_encoding.md R72. -/

namespace Sys2Proof.Machine
open Sys2Proof

def exec (i : Instr) (s : State) : Host.Outcome State Fault Refusal :=
  match i with
  | .silence n => Sys2Proof.Machine.execSilence n s
  | .pulse f => Sys2Proof.Machine.execPulse f s
  | .bit v => Sys2Proof.Machine.execBit v s
  | .byte d => Sys2Proof.Machine.execByte d s
  | .sync n => Sys2Proof.Machine.execSync n s
  | .setbaud b => Sys2Proof.Machine.execSetbaud b s

end Sys2Proof.Machine
end

