-- ==== Sys2Proof/Machine/Ports.lean ====
section
/-! DEFINITION. What the host can see of the block: the output ports of 20_memory.md R59, the observation of a run
(60_exceptions.md R189), and the instantiation of the block at a sample rate (00_scope.md R6). -/

namespace Sys2Proof.Machine

/-- The levels of the block's output ports (R59). -/
structure Outputs where
  /-- `cmd_ready` (R185). -/
  cmdReady : Bool
  /-- `smp_valid` (R55). -/
  smpValid : Bool
  /-- `smp_data[7:0]` (R55). -/
  smpData : Sample
  /-- `status` (R28). -/
  status : Word
  /-- `errcmd` (R29). -/
  errcmd : Word
  /-- `irq` (R176). -/
  irq : Bool
deriving DecidableEq, Repr

/-- `smp_data`: the presented sample while `smp_valid` = 1, else 128 (R55, R201). -/
def State.smpData (s : State) (rst : Bool) : Except Fault Sample :=
  if s.smpValid rst then s.presented else .ok Config.dcBias

/-- The fault that any observation of the state is, if it is one: before the first reset (R202; log 5), of `MODE` = 3
(R30; log 9) or of `ERR_CODE` = 3 (R26; log 10), as 93_implementation_defined.md asks. -/
def State.observationFault (s : State) : Option Fault :=
  if s.resetDone = false then some .beforeReset
  else if s.mode = 3#2 then some .modeReserved
  else if s.errCode = 3#2 then some .errCodeReserved
  else none

/-- The output levels for a level of `rst`. Reading them changes nothing (R28, R58): the answer is no state. -/
def observe (s : State) (rst : Bool) : Except Fault Outputs :=
  match s.observationFault with
  | some f => .error f
  | none =>
    match s.smpData rst with
    | .error f => .error f
    | .ok x => .ok { cmdReady := s.cmdReady rst, smpValid := s.smpValid rst, smpData := x,
                     status := s.statusWord, errcmd := s.errcmdWord, irq := s.irq }

/-- What a finished run shows: the samples transferred since the last reset, `STATUS` and `ERRCMD` (R189). -/
structure Observation where
  /-- The samples transferred since the last reset, in order. -/
  samples : List Sample
  /-- The final `STATUS`. -/
  status : Word
  /-- The final `ERRCMD`. -/
  errcmd : Word
deriving DecidableEq, Repr

/-- A run has ended: the block is idle and the host sends no further command (R189). A command is a word offered while
`cmd_ready` = 1 (R187), so a word offered while `rst` = 1 is none (log 21), and a reset still to come cuts nothing
short. -/
def State.runEnded (s : State) : Bool := s.idle && s.inputs.all fun p => !(p.cmdValid && !p.rst)

/-- The observation of a run, `none` while it has not ended (R189). It shows `STATUS` and so is a fault wherever an
observation is one: such a state is never final (93_implementation_defined.md; logs 5, 9, 10). -/
def runObservation (s : State) : Except Fault (Option Observation) :=
  match s.observationFault with
  | some f => .error f
  | none => .ok (if s.runEnded then some { samples := s.sent, status := s.statusWord, errcmd := s.errcmdWord } else none)

/-- The block built for a sample rate and powered up, with whatever its state then holds: it has seen no reset
(R202). The block is built for 43200 only and a model refuses any other value (R6, D8; log 7). -/
def instantiate (rate : Nat) (contents : State) : Host.Outcome State Fault Refusal :=
  if rate = Config.sampleRate then .next (contents.setResetDone false) else .refused .sampleRate

end Sys2Proof.Machine
end

