-- ==== Sys2Proof/Machine/Step.lean ====
section
/-! DEFINITION. One step is one rising edge of `clk` (20_memory.md R59): reset, a sample transfer, a command acceptance,
or nothing (60_exceptions.md R178). -/

namespace Sys2Proof.Machine

/-- Acceptance of a word (R185): decode it and perform the command's rule or the rejection of R173. -/
def accept (w : Word) (s : State) : Host.Outcome State Fault Refusal :=
  match decode w with
  | .ok i => exec i s
  | .error c => raiseCmdError c w s

/-- One rising edge of `clk`. The edge's input levels are used up first. -/
def step (s : State) : Host.Outcome State Fault Refusal :=
  match edgeOf s with
  | .error f => .fault f
  | .ok .reset => .next s.popInput.applyReset
  | .ok .transfer => transfer s.popInput
  | .ok (.accept w) => accept w s.popInput
  | .ok .hold => .next s.popInput

/-- The input levels of an edge at which the host offers a word and does nothing else. -/
def Pins.offer (w : Word) : Pins := { rst := false, cmdValid := true, cmdData := w, smpReady := false }

/-- `s` with a word offered on the command port at the next edge, before what the host had planned. The block accepts
only when it is idle and has been reset, so those are set as well; nothing else changes (log 2). -/
def State.withFetchWord (s : State) (nbits w : Nat) : State :=
  ((s.setInputs (Pins.offer (tableWord nbits w) :: s.inputs)).setMode M_IDLE).setResetDone true

end Sys2Proof.Machine
end

