-- ==== Sys2Proof/Machine/Assembler.lean ====
section
/-! DEFINITION. The assembler of 30_encoding.md R81 with its pseudo-commands (R82, R83, R84), and the command programs
the source's driver would send (60_exceptions.md R188). Host software: no step of the block calls it. -/

namespace Sys2Proof.Machine

/-- The operands of as many commands as the count `n` needs: one if it fits the 28-bit field, else as many of 2^28 - 1
as fit and one with the remainder (R81, R84; log 15). -/
def splitCount (n : Nat) : List (BitVec 28) :=
  if n ≤ Config.maxCount then [BitVec.ofNat 28 n]
  else List.replicate (n / Config.maxCount) (BitVec.ofNat 28 Config.maxCount) ++ [BitVec.ofNat 28 (n % Config.maxCount)]

/-- The selector bit of a frequency or rate: 1200 is 0 and 2400 is 1 (R73, R81). -/
def selectorOf (v : Nat) : BitVec 1 := if v = 1200 then 0#1 else 1#1

/-- The words of a line whose operands are in range (R81 to R84). -/
def lineWords : AsmLine → List Word
  | .silence n => (splitCount n).map fun c => encode (.silence c)
  | .pulse hz => [encode (.pulse (selectorOf hz))]
  | .bit v => [encode (.bit (BitVec.ofNat 1 v))]
  | .byte d => [encode (.byte (BitVec.ofNat 8 d))]
  | .sync n => (splitCount n).map fun c => encode (.sync c)
  | .setbaud rate => [encode (.setbaud (selectorOf rate))]
  | .rawWord w => [BitVec.ofNat 32 w]
  | .bytes ds => ds.map fun d => encode (.byte (BitVec.ofNat 8 d))
  | .preambleLong => [encode (.silence Config.longGap), encode (.sync Config.initialSyncBits)]
  | .preambleShort => [encode (.silence Config.shortGap), encode (.sync Config.blockSyncBits)]

/-- The words of a line, or `none` for an assembly error: an operand outside its range (R81). -/
def assembleLine (l : AsmLine) : Option (List Word) := if l.wellFormed then some (lineWords l) else none

/-- The words of a program, line by line; an error in any line is an error of the program (R81). -/
def assemble : List AsmLine → Option (List Word)
  | [] => some []
  | l :: ls =>
    match assembleLine l, assemble ls with
    | some ws, some rest => some (ws ++ rest)
    | _, _ => none

/-- A line `BYTES` of a block of bytes (R82, R188). -/
def bytesLine (block : List Byte) : AsmLine := .bytes (block.map BitVec.toNat)

/-- The sentinel byte 0x1A, logical end-of-data for Ascii-kind files (00_scope.md R15). -/
def sentinelByte : Byte := 0x1A#8

/-- The driver's program for a Binary or Basic file: its header block and exactly one following block (R188). -/
def driverBinary (header data : List Byte) : List AsmLine :=
  [.preambleLong, bytesLine header, .preambleShort, bytesLine data]

/-- The driver's lines after the first block of an Ascii file: `seen` says whether a sentinel has been sent, `blocks`
are the blocks that follow (R188). -/
def driverAsciiRest : Bool → List (List Byte) → List AsmLine
  | _, [] => []
  | true, _ :: _ => []
  | false, blk :: blks =>
    .preambleShort :: bytesLine blk :: driverAsciiRest (blk.contains sentinelByte) blks

/-- The driver's program for an Ascii file: every byte of a block is sent, those after a sentinel too (R188). -/
def driverAscii (first : List Byte) (rest : List (List Byte)) : List AsmLine :=
  .preambleLong :: bytesLine first :: driverAsciiRest (first.contains sentinelByte) rest

/-- The driver's program for a file of unknown kind: its single block after the long preamble only (R188). -/
def driverUnknown (block : List Byte) : List AsmLine := [.preambleLong, bytesLine block]

end Sys2Proof.Machine
end

