-- ==== Sys2Proof/Machine/AsmText.lean ====
section
/-! DEFINITION. The text of an assembler line (30_encoding.md R81): mnemonic, then operand; `;` starts a comment. A
line is a list of characters. What R81 leaves open of the text (spaces, letter case, quote marks) is log 20. -/

namespace Sys2Proof.Machine

/-- The single quote, which encloses a quoted character (R81). -/
def squote : Char := Char.ofNat 39

/-- The double quote, which encloses a quoted string of `BYTES` (R82). -/
def dquote : Char := Char.ofNat 34

/-- A space or a tab. -/
def isBlank (c : Char) : Bool := c == ' ' || c == Char.ofNat 9

/-- Marks each character that stands inside quotes; the flag says that a string is open. Any character between two single
quotes is a quoted character, a quote mark too, so a single quote inside such a pair opens nothing; a single quote that
stands otherwise is no quote. How quote marks themselves are quoted is the model's choice (log 20). -/
def markQuoted : Bool → List Char → List (Char × Bool)
  | _, [] => []
  | true, c :: cs => (c, true) :: markQuoted (c != dquote) cs
  | false, a :: b :: c :: cs =>
    if a == squote && c == squote then (a, true) :: (b, true) :: (c, true) :: markQuoted false cs
    else (a, a == dquote) :: markQuoted (a == dquote) (b :: c :: cs)
  | false, c :: cs => (c, c == dquote) :: markQuoted (c == dquote) cs

/-- The text before the comment; a `;` inside quotes starts none (R81; log 20). -/
def stripComment (cs : List Char) : List Char :=
  ((markQuoted false cs).takeWhile fun c => c != (';', false)).map Prod.fst

/-- The text without blanks at either end. -/
def trimBlanks (cs : List Char) : List Char := ((cs.dropWhile isBlank).reverse.dropWhile isBlank).reverse

/-- The value of a digit, decimal or hexadecimal. -/
def digitValue (c : Char) : Option Nat :=
  if 48 ≤ c.toNat ∧ c.toNat ≤ 57 then some (c.toNat - 48)
  else if 65 ≤ c.toNat ∧ c.toNat ≤ 70 then some (c.toNat - 55)
  else if 97 ≤ c.toNat ∧ c.toNat ≤ 102 then some (c.toNat - 87)
  else none

/-- The number the digits write in a base, after the value `acc` of the digits read so far. -/
def readDigits (base acc : Nat) : List Char → Option Nat
  | [] => some acc
  | c :: cs =>
    match digitValue c with
    | some d => if d < base then readDigits base (base * acc + d) cs else none
    | none => none

/-- A number, decimal or with the prefix `0x` hexadecimal (R10, R81). -/
def readNumber : List Char → Option Nat
  | [] => none
  | '0' :: 'x' :: c :: cs => readDigits 16 0 (c :: cs)
  | cs => readDigits 10 0 cs

/-- The items between the commas outside quotes of marked text; `cur` is the current item, reversed. -/
def cutCommas : List Char → List (Char × Bool) → List (List Char)
  | cur, [] => [trimBlanks cur.reverse]
  | cur, c :: cs => if c == (',', false) then trimBlanks cur.reverse :: cutCommas [] cs else cutCommas (c.1 :: cur) cs

/-- The items of a list operand (R82; log 20). -/
def splitCommas (cs : List Char) : List (List Char) := cutCommas [] (markQuoted false cs)

/-- The byte operand of `BYTE`: a number or a quoted character (R81). -/
def readByte (cs : List Char) : Option Nat :=
  match cs with
  | [a, c, z] => if a == squote && z == squote then some c.toNat else readNumber cs
  | _ => readNumber cs

/-- The characters of a quoted string, if the text is one (R82). -/
def readString (cs : List Char) : Option (List Char) :=
  match cs with
  | [] => none
  | c :: rest =>
    if c == dquote && !rest.isEmpty && rest.getLastD ' ' == dquote && !rest.dropLast.contains dquote
    then some rest.dropLast else none

/-- The bytes of one item of `BYTES`: a byte, or the codes of a quoted string in order (R82). -/
def readItem (cs : List Char) : Option (List Nat) :=
  match readString cs with
  | some str => some (str.map Char.toNat)
  | none => (readByte cs).map fun d => [d]

/-- The bytes of the items of `BYTES`, in order (R82). -/
def readItems : List (List Char) → Option (List Nat)
  | [] => some []
  | c :: cs =>
    match readItem c, readItems cs with
    | some ds, some rest => some (ds ++ rest)
    | _, _ => none

/-- The line a mnemonic and its operand text write (R81 to R83). -/
def readCommand (mnemonic operand : List Char) : Option AsmLine :=
  if mnemonic = ['S', 'I', 'L', 'E', 'N', 'C', 'E'] then (readNumber operand).map .silence
  else if mnemonic = ['P', 'U', 'L', 'S', 'E'] then (readNumber operand).map .pulse
  else if mnemonic = ['B', 'I', 'T'] then (readNumber operand).map .bit
  else if mnemonic = ['B', 'Y', 'T', 'E'] then (readByte operand).map .byte
  else if mnemonic = ['S', 'Y', 'N', 'C'] then (readNumber operand).map .sync
  else if mnemonic = ['S', 'E', 'T', 'B', 'A', 'U', 'D'] then (readNumber operand).map .setbaud
  else if mnemonic = ['.', 'w', 'o', 'r', 'd'] then (readNumber operand).map .rawWord
  else if mnemonic = ['B', 'Y', 'T', 'E', 'S'] then (readItems (splitCommas operand)).map .bytes
  else if mnemonic = ['P', 'R', 'E', 'A', 'M', 'B', 'L', 'E', '_', 'L', 'O', 'N', 'G'] then
    if operand.isEmpty then some .preambleLong else none
  else if mnemonic = ['P', 'R', 'E', 'A', 'M', 'B', 'L', 'E', '_', 'S', 'H', 'O', 'R', 'T'] then
    if operand.isEmpty then some .preambleShort else none
  else none

/-- The lines a text line writes: none for a blank line or a comment alone, `none` for text that is no line (R81). -/
def readLine (text : List Char) : Option (List AsmLine) :=
  let body := trimBlanks (stripComment text)
  if body.isEmpty then some []
  else (readCommand (body.takeWhile fun c => !isBlank c) (trimBlanks (body.dropWhile fun c => !isBlank c))).map
    fun l => [l]

end Sys2Proof.Machine
end

