-- ==== Sys2Proof/Machine/LineDecoder.lean ====
section
/-! DEFINITION. The reference decoder of a frame (41_framing.md R144): a test oracle outside the block. -/

namespace Sys2Proof.Machine

/-- The bit a window of samples stands for: a 0 if it equals `BITSEQ(0)`, a 1 if it equals `BITSEQ(1)` (R144). -/
def windowBit (tie : Config.SineTieLow) (b : BitVec 1) (ws : List Sample) : Option (BitVec 1) :=
  if ws = bitSeq tie b 0#1 then some 0#1 else if ws = bitSeq tie b 1#1 then some 1#1 else none

/-- The bits of `n` consecutive windows of `T_BIT` samples (R144). -/
def readWindows (tie : Config.SineTieLow) (b : BitVec 1) : Nat → List Sample → Option (List (BitVec 1))
  | 0, _ => some []
  | n + 1, ss =>
    match windowBit tie b (ss.take (bitTime b)), readWindows tie b n (ss.drop (bitTime b)) with
    | some v, some vs => some (v :: vs)
    | _, _ => none

/-- `sum bit(i) * 2^i`, the first bit least significant (R144). -/
def valueOfBits : List (BitVec 1) → Nat
  | [] => 0
  | v :: vs => v.toNat + 2 * valueOfBits vs

/-- The byte of one frame of 11 bit-times: windows 1 to 8 are its data bits, least significant first (R144). Samples
that are no whole frame, or a window that is no bit, give no byte (log 16). -/
def decodeFrame (tie : Config.SineTieLow) (b : BitVec 1) (ss : List Sample) : Option (BitVec 8) :=
  if ss.length = 11 * bitTime b then
    (readWindows tie b 11 ss).map fun vs => BitVec.ofNat 8 (valueOfBits ((vs.drop 1).take 8))
  else none

end Sys2Proof.Machine
end

