-- ==== Sys2Proof/Machine/Runs.lean ====
section
/-! DEFINITION. Runs of many edges, and the words accepted along one: what 20_memory.md R61 and 60_exceptions.md R189
speak of. -/

namespace Sys2Proof.Machine

/-- `n` rising edges from `s`, stopping at the first fault or refusal. -/
def run : Nat → State → Host.Outcome State Fault Refusal
  | 0, s => .next s
  | n + 1, s =>
    match step s with
    | .next t => run n t
    | .fault f => .fault f
    | .refused r => .refused r

/-- The word the next edge accepts, if it accepts one (R56). -/
def acceptedWord (s : State) : Option Word :=
  match edgeOf s with
  | .ok (.accept w) => some w
  | _ => none

/-- The words accepted during `n` edges from `s`, in order (R61, R70). -/
def acceptedWords : Nat → State → List Word
  | 0, _ => []
  | n + 1, s =>
    match step s with
    | .next t => (acceptedWord s).toList ++ acceptedWords n t
    | _ => []

/-- The host drives `rst` = 0 at each of the next `n` edges. -/
def State.noReset (s : State) (n : Nat) : Bool := (s.inputs.take n).all fun p => !p.rst

/-- `S(c1) ++ S(c2) ++ ... ++ S(cn)`, each at the baud selection in force when its word was accepted (R61). -/
def streamOf (tie : Config.SineTieLow) : BitVec 1 → List Word → List Sample
  | _, [] => []
  | b, w :: ws => wordSamples tie b w ++ streamOf tie (baudAfter b w) ws

/-- The first rejected word of a list of accepted words, with its cause (R26, R27). -/
def firstRejected : List Word → Option (Cause × Word)
  | [] => none
  | w :: ws =>
    match decode w with
    | .error c => some (c, w)
    | .ok _ => firstRejected ws

/-- The input levels of an edge at which the host takes a sample and offers no word. -/
def Pins.take : Pins := { rst := false, cmdValid := false, cmdData := 0#32, smpReady := true }

end Sys2Proof.Machine
end

