-- ==== Sys2Proof/Safety.lean ====
section
/-! DEFINITION. What holds of every state a run from reset reaches, in the terms of 10_state.md R26, R27, R30 to R36. -/

namespace Sys2Proof.Machine

/-- The error report is one the block can show: `ERR_CODE` is 0 exactly while `ERR` is 0, is never 3, and `ERR_CMD` is 0
while nothing is recorded (R25, R26, R27). -/
abbrev State.ErrorOk (s : State) : Prop :=
  (s.err = 0#1 ↔ s.errCode = 0#2) ∧ s.errCode ≠ 3#2 ∧ (s.err = 0#1 → s.errCmd = 0#32)

/-- The emission registers are ones the block can hold: `MODE` is never 3 (R30); `SIL_LEFT` ≥ 1 in `M_SILENCE` (R31); in
`M_TONE`, `K` < `L` (R36), only a short pulse has another to come (R35), and `BITS_LEFT` is at most 2·(2^28 − 1) − 1
(R32). -/
abbrev State.EmissionOk (s : State) : Prop :=
  s.mode ≠ 3#2 ∧ (s.mode = M_SILENCE → s.silLeft ≠ 0#28) ∧
  (s.mode = M_TONE → s.k.toNat < s.curLen ∧ (s.pulsesLeft = 1#1 → s.curF = 1#1) ∧ s.bitsLeft.toNat ≤ 536870909)

/-- The invariant of the block: once it has been reset, its registers are ones the block can hold. Before the first
reset nothing is known of them (R202). -/
abbrev State.Inv (s : State) : Prop := s.resetDone = true → s.ErrorOk ∧ s.EmissionOk

/-- The block has been reset and keeps its invariant: the premise of what is said of a running block. -/
abbrev State.Live (s : State) : Prop := s.resetDone = true ∧ s.Inv

/-- A step is safe when it ends in a next state: no fault, no refusal (R170). -/
def State.StepsOn (s : State) : Prop := ∃ t, step s = .next t

end Sys2Proof.Machine
end

