-- ==== Sys2Proof/Certificates/Slice0/Obligations.lean ====
section
/-! DEFINITION. The statements for the provers, each from a numbered rule of spec/ as its docstring says. "The model's
choice" marks a clause that rests on a log entry and not on a rule. -/

open Sys2Proof Sys2Proof.Machine

/-! Encoding: 30_encoding.md, 20_memory.md R52. -/

/-- Decoding the word of a command gives the command, with every operand (R71, R73, R77). -/
def Obligations.DecodeOfEncode : Prop := ∀ i : Instr, decode (encode i) = .ok i

/-- Each legal word has one meaning: a word that decodes to a command is that command's word, so no bit of it is
ignored (R71, R75). -/
def Obligations.EncodeOfDecode : Prop := ∀ (w : Word) (i : Instr), decode w = .ok i → encode i = w

/-- The decoder of R77 in arithmetic on the word's value: `OP` = w / 2^28, `ARG` = w mod 2^28. -/
def Obligations.DecoderChecksOpcodeThenReservedBits : Prop :=
  ∀ w : Word,
    (w.toNat / 2 ^ 28 = 1 → decode w = .ok (.silence (BitVec.ofNat 28 (w.toNat % 2 ^ 28)))) ∧
    (w.toNat / 2 ^ 28 = 2 → decode w =
      if w.toNat % 2 ^ 28 / 2 ≠ 0 then .error .reservedBits else .ok (.pulse (BitVec.ofNat 1 (w.toNat % 2)))) ∧
    (w.toNat / 2 ^ 28 = 3 → decode w =
      if w.toNat % 2 ^ 28 / 2 ≠ 0 then .error .reservedBits else .ok (.bit (BitVec.ofNat 1 (w.toNat % 2)))) ∧
    (w.toNat / 2 ^ 28 = 4 → decode w =
      if w.toNat % 2 ^ 28 / 256 ≠ 0 then .error .reservedBits else .ok (.byte (BitVec.ofNat 8 (w.toNat % 256)))) ∧
    (w.toNat / 2 ^ 28 = 5 → decode w = .ok (.sync (BitVec.ofNat 28 (w.toNat % 2 ^ 28)))) ∧
    (w.toNat / 2 ^ 28 = 6 → decode w =
      if w.toNat % 2 ^ 28 / 2 ≠ 0 then .error .reservedBits else .ok (.setbaud (BitVec.ofNat 1 (w.toNat % 2)))) ∧
    (w.toNat / 2 ^ 28 = 0 ∨ 7 ≤ w.toNat / 2 ^ 28 → decode w = .error .illegalOpcode)

/-- How many words spell each command, and how many are rejected (R78). -/
def Obligations.LegalWordCounts : Prop :=
  Nat.card { w : Word // ∃ n, decode w = .ok (.silence n) } = 2 ^ 28 ∧
  Nat.card { w : Word // ∃ f, decode w = .ok (.pulse f) } = 2 ∧
  Nat.card { w : Word // ∃ v, decode w = .ok (.bit v) } = 2 ∧
  Nat.card { w : Word // ∃ d, decode w = .ok (.byte d) } = 256 ∧
  Nat.card { w : Word // ∃ n, decode w = .ok (.sync n) } = 2 ^ 28 ∧
  Nat.card { w : Word // ∃ b, decode w = .ok (.setbaud b) } = 2 ∧
  Nat.card { w : Word // ∃ c, decode w = .error c } = 2 ^ 32 - 2 ^ 29 - 262

/-- A few words written out from the encoding tables decode to their commands (R71, R81). -/
def Obligations.TableWordsDecode : Prop :=
  decode 0x10000003#32 = .ok (.silence 3#28) ∧ decode 0x20000001#32 = .ok (.pulse 1#1) ∧
  decode 0x30000000#32 = .ok (.bit 0#1) ∧ decode 0x40000041#32 = .ok (.byte 0x41#8) ∧
  decode 0x5FFFFFFF#32 = .ok (.sync 0xFFFFFFF#28) ∧ decode 0x60000001#32 = .ok (.setbaud 1#1) ∧
  decode 0x00000000#32 = .error .illegalOpcode ∧ decode 0x38000001#32 = .error .reservedBits

/-- Over a narrower bus a command word travels least significant byte first (R52): byte `i` is bits 8i+7..8i, the four
bytes give the word back and decode as it does, and any other number of bytes is no word (R79). -/
def Obligations.WordBytesLeastSignificantFirst : Prop :=
  (∀ w : Word, (bytesOfWord w).length = 4 ∧
    (∀ i < 4, (bytesOfWord w)[i]? = some (BitVec.ofNat 8 (w.toNat / 256 ^ i))) ∧
    wordOfBytes (bytesOfWord w) = some w ∧ decodeBytes (bytesOfWord w) = some (decode w)) ∧
  ∀ bs : List Byte, bs.length ≠ 4 → decodeBytes bs = none

/-! Acceptance and the other events of an edge: 20_memory.md R55, R56; 60_exceptions.md R178, R185. -/

/-- A step runs the decoded command: where the edge accepts a word that decodes to `i`, the step is `exec i` on the
state with the edge's input levels used up (R56, R185; that one step is one edge is the model's choice, log 1). -/
def Obligations.StepRunsAcceptedCommand : Prop :=
  ∀ (s : State) (i : Instr), s.resetDone = true → s.idle = true → s.pins.rst = false → s.pins.cmdValid = true →
    decode s.pins.cmdData = .ok i → step s = exec i s.popInput

/-- A word placed on the command port of a reset, idle block runs at the very next edge (the model's choice, log 2). -/
def Obligations.PlacedWordRunsAtNextEdge : Prop :=
  ∀ (s : State) (nbits w : Nat) (i : Instr), s.resetDone = true → s.idle = true →
    decodeTableWord nbits w = some i → step (s.withFetchWord nbits w) = exec i s

/-- When a command is accepted and what acceptance does (R185). -/
def Obligations.AcceptanceOnlyWhenIdle : Prop :=
  (∀ (s : State) (rst : Bool), s.cmdReady rst = true ↔ (s.idle = true ∧ rst = false)) ∧
  (∀ (s : State) (w : Word), edgeOf s = .ok (.accept w) →
    s.cmdReady s.pins.rst = true ∧ s.pins.cmdValid = true ∧ w = s.pins.cmdData ∧ s.pending = []) ∧
  (∀ s : State, s.Live → s.cmdReady s.pins.rst = true → s.pins.cmdValid = true →
    step s = match decode s.pins.cmdData with
      | .ok i => exec i s.popInput
      | .error c => raiseCmdError c s.pins.cmdData s.popInput)

/-- Simultaneous events (R178): reset overrides everything and gives every state item its reset value; a transfer and
an acceptance cannot coincide, because `cmd_ready` = 1 only when `smp_valid` = 0. (The model's own four fields are left
out of the comparison with the reset state.) -/
def Obligations.ResetFirstAndTransferExcludesAcceptance : Prop :=
  (∀ s : State, s.pins.rst = true → edgeOf s = .ok .reset ∧ ∃ t : State, step s = .next t ∧ t.pending = [] ∧
    { t with sineTieLow := .tie64, resetDone := true, inputs := [], sent := [] } = State.reset) ∧
  (∀ (s : State) (rst : Bool), s.cmdReady rst = true → s.smpValid rst = false) ∧
  (∀ (s : State) (w : Word), edgeOf s = .ok (.accept w) → s.smpValid s.pins.rst = false) ∧
  (∀ s : State, edgeOf s = .ok .transfer → s.cmdReady s.pins.rst = false)

/-- A transfer edge (R55): the first sample of `PENDING` joins the stream and leaves `PENDING`; the baud selection and
the error report stay as they are. (The record `sent` is the model's choice, log 4.) -/
def Obligations.TransferTakesFirstPendingSample : Prop :=
  ∀ s : State, s.Live → s.idle = false → s.pins.rst = false → s.pins.smpReady = true →
    ∃ (x : Sample) (t : State), step s = .next t ∧ s.pending = x :: t.pending ∧ t.sent = s.sent ++ [x] ∧
      t.baudSel = s.baudSel ∧ t.err = s.err ∧ t.errCode = s.errCode ∧ t.errCmd = s.errCmd ∧
      t.sineTieLow = s.sineTieLow ∧ t.resetDone = true ∧ t.inputs = s.inputs.tail

/-- A sample held with `smp_ready` = 0 is presented again, unchanged (R58, R66). -/
def Obligations.StalledSampleIsHeld : Prop :=
  ∀ s : State, s.Live → s.idle = false → s.pins.rst = false → s.pins.smpReady = false →
    step s = .next s.popInput ∧ observe s.popInput false = observe s false ∧ s.popInput.pending = s.pending

/-- An idle block that is offered no word holds all its state and emits nothing (R186, R55), whatever `smp_ready` is. -/
def Obligations.IdleBlockHolds : Prop :=
  ∀ s : State, s.Live → s.idle = true → s.pins.rst = false → s.pins.cmdValid = false →
    step s = .next { s with inputs := s.inputs.tail } ∧ s.smpValid false = false ∧ s.smpData false = .ok 128#8

/-! Reset: 70_reset_and_hazards.md R200 to R203; instantiation: 00_scope.md R6. -/

/-- The reset edge gives every state item its reset value, from any state, and leaves the ROM alone (R200, R41). -/
def Obligations.ResetEdgeGivesResetValues : Prop :=
  ∀ s : State, s.pins.rst = true → ∃ t : State, step s = .next t ∧
    t.baudSel = 0#1 ∧ t.err = 0#1 ∧ t.errCode = 0#2 ∧ t.errCmd = 0x00000000#32 ∧ t.pending = [] ∧ t.idle = true ∧
    t.statusWord = 0x00000001#32 ∧ t.errcmdWord = 0x00000000#32 ∧ t.mode = M_IDLE ∧ M_IDLE = 0#2 ∧
    t.silLeft = 0#28 ∧ t.bitsLeft = 0#29 ∧ t.shift = 0#11 ∧ t.curF = 0#1 ∧ t.pulsesLeft = 0#1 ∧ t.k = 0#6 ∧
    ∀ θ, romEntry t.sineTieLow θ = romEntry s.sineTieLow θ

/-- One reset edge completes reset: the block is then idle and ready as soon as `rst` = 0, and a further reset edge
changes nothing more (R203). -/
def Obligations.HoldingResetChangesNothingMore : Prop :=
  ∀ s t : State, s.pins.rst = true → step s = .next t →
    t.idle = true ∧ (t.pins.rst = false → t.cmdReady t.pins.rst = true) ∧
    (t.pins.rst = true → step t = .next { t with inputs := t.inputs.tail })

/-- The outputs while `rst` = 1 (R201): no handshake, `smp_data` = 128, and the state shown on `status`, `errcmd` and
`irq`, which after a reset edge are 0x00000001, 0x00000000 and 0. -/
def Obligations.OutputsWhileReset : Prop :=
  (∀ s : State, s.resetDone = true → s.mode ≠ 3#2 → s.errCode ≠ 3#2 →
    observe s true = .ok { cmdReady := false, smpValid := false, smpData := 128#8, status := s.statusWord,
                           errcmd := s.errCmd, irq := decide (s.err = 1#1) }) ∧
  (∀ s : State, s.pins.rst = true → edgeOf s = .ok .reset) ∧
  (∀ s t : State, s.pins.rst = true → step s = .next t →
    observe t true = .ok { cmdReady := false, smpValid := false, smpData := 128#8, status := 0x00000001#32,
                           errcmd := 0x00000000#32, irq := false })

/-- Before the first reset edge every observation is a fault, and so is an edge that would look at a handshake output;
a reset edge brings the block to life (R202; which edges observe is the model's choice, log 5). -/
def Obligations.NoObservationBeforeFirstReset : Prop :=
  ∀ s : State, s.resetDone = false →
    (∀ rst, observe s rst = .error .beforeReset) ∧ runObservation s = .error .beforeReset ∧
    (s.pins.rst = false → (s.pins.cmdValid = true ∨ s.pins.smpReady = true) → step s = .fault .beforeReset) ∧
    (s.pins.rst = true → ∃ t, step s = .next t ∧ t.Live)

/-- The block is built for 43200 samples per second and the model refuses any other rate (R6; that the built block has
seen no reset is the model's choice, logs 5 and 7). -/
def Obligations.OnlyRate43200IsBuilt : Prop :=
  ∀ (rate : Nat) (s : State),
    (rate ≠ 43200 → instantiate rate s = .refused .sampleRate) ∧
    instantiate 43200 s = .next { s with resetDone := false }

/-! The emission registers and `PENDING`: 10_state.md R23, R30 to R38. -/

/-- `IDLE` = 1 when `PENDING` = `[]`, else 0 (R23); `IDLE` is read from `MODE` in the model (log 3). -/
def Obligations.IdleExactlyWhenNothingPending : Prop :=
  ∀ s : State, s.Live → (s.idle = true ↔ s.pending = [])

/-- The sample step of the reference registers removes exactly the first sample of `PENDING`, and that sample is the one
presented (R37, R38). -/
def Obligations.SampleStepRefinesPending : Prop :=
  ∀ s : State, s.Live → s.idle = false →
    ∃ x : Sample, s.presented = .ok x ∧ s.pending = x :: s.advance.pending

/-- Loading a command into the registers of an idle block makes `PENDING` the command's sample sequence (R37, R61). -/
def Obligations.LoadedCommandPendsItsSamples : Prop :=
  ∀ (i : Instr) (s : State), s.idle = true →
    ∃ t : State, exec i s = .next t ∧ t.pending = commandSamples s.sineTieLow s.baudSel i

/-- What the output ports show of a live block outside reset: `smp_valid` = 1 exactly when `PENDING` is not empty, with
its first sample on `smp_data`, else 128; `cmd_ready` the opposite (R55, R185, R176). -/
def Obligations.PortsShowFirstPendingSample : Prop :=
  ∀ s : State, s.Live → ∃ o : Outputs, observe s false = .ok o ∧ (o.smpValid = true ↔ s.pending ≠ []) ∧
    o.cmdReady = !o.smpValid ∧ o.smpData = s.pending.headD 128#8 ∧ o.status = s.statusWord ∧
    o.errcmd = s.errCmd ∧ (o.irq = true ↔ s.err = 1#1)

/-- Every step keeps the registers ones the block can hold (R26, R30, R31, R32, R35, R36). -/
def Obligations.EveryStepKeepsInv : Prop := ∀ s t : State, s.Inv → step s = .next t → t.Inv

/-- The state after reset has the invariant (R41; that it counts as having seen a reset is the model's choice, log 5). -/
def Obligations.ResetStateHasInv : Prop := State.reset.Live

/-- No live block ever stops: every edge ends in a next state (R170). -/
def Obligations.LiveBlockNeverStops : Prop := ∀ s : State, s.Live → s.StepsOn

/-- Taking every sample drains the block: it ends idle and the stream has grown by exactly `PENDING` (R23, R55). That
one edge takes one sample, so that the drain is over after as many edges as `PENDING` is long, is the model's choice
(log 13): the spec says nothing of the clock cycles a sample takes (R221). -/
def Obligations.DrainTransfersExactlyPending : Prop :=
  ∀ (s : State) (ps : List Pins), s.Live → s.inputs = List.replicate s.pending.length Pins.take ++ ps →
    ∃ t : State, run s.pending.length s = .next t ∧ t.idle = true ∧ t.sent = s.sent ++ s.pending ∧ t.inputs = ps ∧
      t.baudSel = s.baudSel ∧ t.err = s.err ∧ t.errCode = s.errCode ∧ t.errCmd = s.errCmd

/-! Runs: 20_memory.md R61, 60_exceptions.md R173 to R176, R189. -/

/-- The ordering model (R61). Along any run without a reset, under any schedule of offers and stalls, what has been
transferred and what is pending is what was there before followed by `S(c)` of each accepted word in order; so a run
that starts at a reset and ends idle has transferred exactly `S(c1) ++ ... ++ S(cn)`. -/
def Obligations.StreamIsConcatenationOfCommands : Prop :=
  (∀ (n : Nat) (s t : State), s.Live → s.noReset n = true → run n s = .next t →
    t.sent ++ t.pending = s.sent ++ s.pending ++ streamOf s.sineTieLow s.baudSel (acceptedWords n s)) ∧
  (∀ (n : Nat) (s₀ s t : State), s₀.pins.rst = true → step s₀ = .next s → s.noReset n = true → run n s = .next t →
    t.idle = true → t.sent = streamOf s.sineTieLow s.baudSel (acceptedWords n s))

/-- Along a run without a reset that starts with no error, the error report is that of the first rejected word, if
there is one (R26, R27, R175). -/
def Obligations.ErrorReportIsFirstRejection : Prop :=
  ∀ (n : Nat) (s t : State), s.Live → s.err = 0#1 → s.noReset n = true → run n s = .next t →
    match firstRejected (acceptedWords n s) with
    | none => t.err = 0#1 ∧ t.errCode = 0#2 ∧ t.errCmd = 0#32
    | some (c, w) => t.err = 1#1 ∧ t.errCode = c.code ∧ t.errCmd = w

/-- Errors are sticky (R176): the block never stops for one, no command clears it, a later rejection changes nothing,
`irq` = `ERR` at all times, and only reset clears it. -/
def Obligations.ErrorReportIsSticky : Prop :=
  (∀ (n : Nat) (s : State), s.Live → s.err = 1#1 → s.noReset n = true →
    ∃ t : State, run n s = .next t ∧ t.err = 1#1 ∧ t.errCode = s.errCode ∧ t.errCmd = s.errCmd ∧ t.irq = true) ∧
  (∀ (s : State) (c : Cause) (w : Word), s.err = 1#1 → raiseCmdError c w s = .next s) ∧
  (∀ s : State, s.irq = true ↔ s.err = 1#1) ∧
  (∀ s t : State, s.pins.rst = true → step s = .next t → t.err = 0#1 ∧ t.irq = false)

/-- The observation of a run from a reset is a function of the words accepted since: their samples, the final baud
selection, and the first rejection (R189, R16, R28). -/
def Obligations.ObservationIsFunctionOfAcceptedWords : Prop :=
  ∀ (n : Nat) (s₀ s t : State) (o : Observation), s₀.pins.rst = true → step s₀ = .next s → s.noReset n = true →
    run n s = .next t → runObservation t = .ok (some o) →
    o.samples = streamOf s₀.sineTieLow 0#1 (acceptedWords n s) ∧
    match firstRejected (acceptedWords n s) with
    | none => o.errcmd = 0#32 ∧ o.status.toNat = 1 + 16 * ((acceptedWords n s).foldl baudAfter 0#1).toNat
    | some (c, w) => o.errcmd = w ∧
        o.status.toNat = 1 + 2 + 4 * c.code.toNat + 16 * ((acceptedWords n s).foldl baudAfter 0#1).toNat

/-- The rejection action (R173), with the frame: the first rejection since reset is recorded, a later one is not, and
nothing else changes; the word is consumed and the block is ready at the next clock. -/
def Obligations.RejectionAction : Prop :=
  ∀ (s : State) (w : Word) (c : Cause), s.Live → edgeOf s = .ok (.accept w) → decode w = .error c →
    ∃ t : State, step s = .next t ∧
      (s.err = 0#1 → t = { s with inputs := s.inputs.tail, err := 1#1, errCode := c.code, errCmd := w }) ∧
      (s.err = 1#1 → t = { s with inputs := s.inputs.tail }) ∧
      t.pending = [] ∧ t.baudSel = s.baudSel ∧ t.sent = s.sent ∧ t.cmdReady false = true

/-- Words with an illegal opcode (R74): rejected with code 1, no sample, no change but the error state; the all-zero
word is one of them. -/
def Obligations.IllegalOpcodeRejected : Prop :=
  (∀ s : State, s.Live → s.idle = true → s.pins.rst = false → s.pins.cmdValid = true →
    (s.pins.cmdData.toNat / 2 ^ 28 = 0 ∨ 7 ≤ s.pins.cmdData.toNat / 2 ^ 28) →
    (∀ i, decode s.pins.cmdData ≠ .ok i) ∧
    ∃ t : State, step s = .next t ∧
      t = { s with inputs := s.inputs.tail, err := t.err, errCode := t.errCode, errCmd := t.errCmd } ∧
      t.err = 1#1 ∧ (s.err = 0#1 → t.errCode = 1#2 ∧ t.errCmd = s.pins.cmdData) ∧ t.pending = []) ∧
  decode 0#32 = .error .illegalOpcode ∧ Cause.illegalOpcode.code = 1#2

/-- Words with a legal opcode and a reserved bit set (R75): rejected with code 2, no sample, no change but the error
state; `SILENCE` and `SYNC` have no reserved bits. -/
def Obligations.ReservedBitsRejected : Prop :=
  (∀ s : State, s.Live → s.idle = true → s.pins.rst = false → s.pins.cmdValid = true →
    (((s.pins.cmdData.toNat / 2 ^ 28 = 2 ∨ s.pins.cmdData.toNat / 2 ^ 28 = 3 ∨ s.pins.cmdData.toNat / 2 ^ 28 = 6) ∧
        s.pins.cmdData.toNat % 2 ^ 28 / 2 ≠ 0) ∨
      (s.pins.cmdData.toNat / 2 ^ 28 = 4 ∧ s.pins.cmdData.toNat % 2 ^ 28 / 256 ≠ 0)) →
    ∃ t : State, step s = .next t ∧
      t = { s with inputs := s.inputs.tail, err := t.err, errCode := t.errCode, errCmd := t.errCmd } ∧
      t.err = 1#1 ∧ (s.err = 0#1 → t.errCode = 2#2 ∧ t.errCmd = s.pins.cmdData) ∧ t.pending = []) ∧
  (∀ w : Word, w.toNat / 2 ^ 28 = 1 ∨ w.toNat / 2 ^ 28 = 5 → ∃ i, decode w = .ok i) ∧
  Cause.reservedBits.code = 2#2

/-- `BAUD_SEL` is written only by `SETBAUD` and by reset (R24). -/
def Obligations.OnlySetbaudChangesBaud : Prop :=
  ∀ s t : State, step s = .next t → s.pins.rst = false → t.baudSel ≠ s.baudSel →
    ∃ (w : Word) (b : BitVec 1), edgeOf s = .ok (.accept w) ∧ decode w = .ok (.setbaud b) ∧ t.baudSel = b

/-- The fields of `STATUS` (R28): `IDLE` at bit 0, `ERR` at bit 1, `ERR_CODE` at 3:2, `BAUD_SEL` at bit 4, 31:5 zero; and
`ERRCMD` drives `ERR_CMD` (R29). A block that has been reset, in a legal mode, can be observed unless `ERR_CODE` is 3,
and with the reserved value 3 (R26) every observation is a fault (93_implementation_defined.md; log 10). -/
def Obligations.StatusPortFields : Prop :=
  (∀ s : State, s.statusWord.toNat = s.idle.toNat + 2 * s.err.toNat + 4 * s.errCode.toNat + 16 * s.baudSel.toNat ∧
    s.errcmdWord = s.errCmd) ∧
  ∀ s : State, s.resetDone = true → s.mode ≠ 3#2 →
    (s.errCode = 3#2 → (∀ rst, observe s rst = .error .errCodeReserved) ∧
      runObservation s = .error .errCodeReserved) ∧
    (s.errCode ≠ 3#2 → ∃ o, runObservation s = .ok o)

/-! The commands: what each loads, with its frame. These hold of a busy block as well, on which the spec runs no command
(the model's choice, log 17). -/

/-- `SILENCE N` (R110): `N` > 0 loads `M_SILENCE` with `SIL_LEFT` = `N`; `N` = 0 changes nothing. Nothing else changes. -/
def Obligations.SilenceLoadsItsCount : Prop :=
  ∀ (n : BitVec 28) (s : State),
    (n ≠ 0#28 → exec (.silence n) s = .next { s with mode := 1#2, silLeft := n }) ∧
    exec (.silence 0#28) s = .next s

/-- `PULSE F` (R115): one pulse of the selected frequency from index 0; nothing else changes, `SHIFT` included. -/
def Obligations.PulseLoadsOnePulse : Prop :=
  ∀ (f : BitVec 1) (s : State),
    exec (.pulse f) s = .next { s with mode := 2#2, curF := f, pulsesLeft := 0#1, bitsLeft := 0#29, k := 0#6 }

/-- `BIT V` (R135): one bit of value `V`; nothing else changes. -/
def Obligations.BitLoadsOneBit : Prop :=
  ∀ (v : BitVec 1) (s : State),
    exec (.bit v) s =
      .next { s with mode := 2#2, shift := 0#10 ++ v, curF := v, pulsesLeft := v, bitsLeft := 0#29, k := 0#6 }

/-- `BYTE D` (R140): the frame with its start bit current and ten bits after it; nothing else changes. The frame's bits
are start bit 0, `D[0]` to `D[7]`, and two stop bits 1. -/
def Obligations.ByteLoadsItsFrame : Prop :=
  ∀ (d : BitVec 8) (s : State), ∃ frame : BitVec 11,
    exec (.byte d) s =
      .next { s with mode := 2#2, shift := frame, curF := 0#1, pulsesLeft := 0#1, bitsLeft := 10#29, k := 0#6 } ∧
    bitAt frame 0 = 0#1 ∧ (∀ i < 8, bitAt frame (i + 1) = bitAt d i) ∧ bitAt frame 9 = 1#1 ∧ bitAt frame 10 = 1#1

/-- `SYNC N` (R150): `M` = `N` · `BAUD` / 1200 one bits, the first current and `M` − 1 after it, which the register
holds; `N` = 0 changes nothing. Nothing else changes. -/
def Obligations.SyncLoadsItsOneBits : Prop :=
  ∀ (n : BitVec 28) (s : State),
    (n ≠ 0#28 → ∃ m : BitVec 29,
      exec (.sync n) s =
        .next { s with mode := 2#2, shift := 0x7FF#11, curF := 1#1, pulsesLeft := 1#1, bitsLeft := m, k := 0#6 } ∧
      m.toNat + 1 = n.toNat * (if s.baudSel = 0#1 then 1200 else 2400) / 1200 ∧ m.toNat ≤ 2 * (2 ^ 28 - 1) - 1) ∧
    exec (.sync 0#28) s = .next s

/-- `SETBAUD B` (R160): `BAUD_SEL` <- `B`, bit 4 of `STATUS` reads `B`, and nothing else changes; an idle block stays
idle with nothing pending. -/
def Obligations.SetbaudSelectsTheRate : Prop :=
  ∀ (b : BitVec 1) (s : State), ∃ t : State, exec (.setbaud b) s = .next t ∧ t = { s with baudSel := b } ∧
    bitAt t.statusWord 4 = b ∧ (s.idle = true → t.idle = true ∧ t.pending = [])

/-! The waveform: 40_waveform.md. -/

/-- Each ROM entry is `sin(θ)·127 + 128` rounded to nearest (R100), under either reading of the two ties R102 speaks of
(log 6). -/
def Obligations.RomIsTheRoundedSine : Prop :=
  ∀ (tie : Config.SineTieLow) (θ : Fin 360),
    |((romEntry tie θ).toNat : ℝ) - (Real.sin ((θ.val : ℝ) * Real.pi / 180) * 127 + 128)| ≤ 1 / 2

/-- The properties of the ROM as R101 gives it, with 64 at the ties (R103). -/
def Obligations.RomSymmetries : Prop :=
  (∀ θ : Fin 360, 1 ≤ (romEntry .tie64 θ).toNat ∧ (romEntry .tie64 θ).toNat ≤ 255) ∧
  romEntry .tie64 0 = 128#8 ∧ romEntry .tie64 180 = 128#8 ∧ romEntry .tie64 90 = 255#8 ∧ romEntry .tie64 270 = 1#8 ∧
  (∀ θ : Fin 360, (romEntry .tie64 (θ + 180)).toNat = 256 - (romEntry .tie64 θ).toNat) ∧
  (∀ θ : Fin 360, romEntry .tie64 (180 - θ) = romEntry .tie64 θ)

/-- The ROM index never leaves 0..359 within a pulse, for a pulse of any length (R107). -/
def Obligations.PulseIndexNeverWraps : Prop :=
  ∀ k L : Nat, k < L → romIndex k L ≤ (360 * L - 360) / L ∧ (360 * L - 360) / L ≤ 359

/-- The pulse-length formula and its four values, each an exact quotient, with the frequencies they produce (R105). -/
def Obligations.PulseLengthTable : Prop :=
  (∀ rate baud f, pulseLenAt rate baud f = rate * 1200 / (baud * f)) ∧
  (∀ b f : BitVec 1, pulseLen b f = pulseLenAt 43200 (baudOf b) (freqOf f) ∧
    pulseLen b f * (baudOf b * freqOf f) = 43200 * 1200) ∧
  pulseLen 0#1 0#1 = 36 ∧ pulseLen 0#1 1#1 = 18 ∧ pulseLen 1#1 0#1 = 18 ∧ pulseLen 1#1 1#1 = 9 ∧
  43200 / pulseLen 0#1 0#1 = 1200 ∧ 43200 / pulseLen 0#1 1#1 = 2400 ∧
  43200 / pulseLen 1#1 0#1 = 2400 ∧ 43200 / pulseLen 1#1 1#1 = 4800

/-- The three pulses that occur (R108), what they carry, the ROM indices they read, and which read the tie entries. -/
def Obligations.PulseWaveforms : Prop :=
  (∀ b f : BitVec 1, pulseLen b f = 36 ∨ pulseLen b f = 18 ∨ pulseLen b f = 9) ∧
  bitSeq .tie64 0#1 0#1 = pulseWave .tie64 36 ∧ bitSeq .tie64 0#1 1#1 = pulseWave .tie64 18 ++ pulseWave .tie64 18 ∧
  bitSeq .tie64 1#1 0#1 = pulseWave .tie64 18 ∧ bitSeq .tie64 1#1 1#1 = pulseWave .tie64 9 ++ pulseWave .tie64 9 ∧
  (∀ k < 36, romIndex k 36 = 10 * k) ∧ (∀ k < 18, romIndex k 18 = 20 * k) ∧ (∀ k < 9, romIndex k 9 = 40 * k) ∧
  pulseWave .tie64 36 =
    [128, 150, 171, 192, 210, 225, 238, 247, 253, 255, 253, 247, 238, 225, 210, 192, 171, 150, 128, 106, 85, 64, 46, 31,
     18, 9, 3, 1, 3, 9, 18, 31, 46, 64, 85, 106] ∧
  pulseWave .tie64 18 = [128, 171, 210, 238, 253, 253, 238, 210, 171, 128, 85, 46, 18, 3, 3, 18, 46, 85] ∧
  pulseWave .tie64 9 = [128, 210, 253, 238, 171, 85, 18, 3, 46] ∧
  [3, 15, 21, 33].map (fun k => romIndex k 36) = [30, 150, 210, 330] ∧
  (∀ k < 18, romIndex k 18 ∉ [30, 150, 210, 330]) ∧ (∀ k < 9, romIndex k 9 ∉ [30, 150, 210, 330])

/-- The lengths and sample sums of the four `PULSE` forms: every sum is 128 · L (R116). -/
def Obligations.PulseSampleSums : Prop :=
  commandSamples .tie64 0#1 (.pulse 0#1) = pulseWave .tie64 36 ∧
  commandSamples .tie64 0#1 (.pulse 1#1) = pulseWave .tie64 18 ∧
  commandSamples .tie64 1#1 (.pulse 0#1) = pulseWave .tie64 18 ∧
  commandSamples .tie64 1#1 (.pulse 1#1) = pulseWave .tie64 9 ∧
  ((pulseWave .tie64 36).map BitVec.toNat).sum = 4608 ∧ ((pulseWave .tie64 18).map BitVec.toNat).sum = 2304 ∧
  ((pulseWave .tie64 9).map BitVec.toNat).sum = 1152 ∧
  ∀ b f : BitVec 1, (commandSamples .tie64 b (.pulse f)).length = pulseLen b f ∧
    ((commandSamples .tie64 b (.pulse f)).map BitVec.toNat).sum = 128 * pulseLen b f

/-- `SILENCE a` then `SILENCE b` emits what `SILENCE (a + b)` emits (R112), where the sum is a count the field holds. -/
def Obligations.SilenceRunsConcatenate : Prop :=
  ∀ (tie : Config.SineTieLow) (bd : BitVec 1) (a b : BitVec 28), a.toNat + b.toNat < 2 ^ 28 →
    streamOf tie bd [encode (.silence a), encode (.silence b)] =
      streamOf tie bd [encode (.silence (BitVec.ofNat 28 (a.toNat + b.toNat)))]

/-! Bits and frames: 41_framing.md. -/

/-- Both bits last one bit-time: 36 samples at 1200 baud and 18 at 2400 (R132, R133), which the general formula does
not keep at every sample rate. -/
def Obligations.BitDurationsAreEqual : Prop :=
  (∀ (tie : Config.SineTieLow) (b : BitVec 1),
    (bitSeq tie b 0#1).length = (bitSeq tie b 1#1).length ∧ bitTime b = (bitSeq tie b 0#1).length ∧
    bitTime b = 43200 / baudOf b) ∧
  bitTime 0#1 = 36 ∧ bitTime 1#1 = 18 ∧ pulseLenAt 22050 2400 1200 = 9 ∧ 2 * pulseLenAt 22050 2400 2400 = 8

/-- The frame layout (R141): the bit-time at position `j` starts at sample `j · T_BIT` and carries the start bit, `D[0]`
to `D[7]`, or a stop bit. -/
def Obligations.FrameLayout : Prop :=
  ∀ (tie : Config.SineTieLow) (b : BitVec 1) (d : BitVec 8) (j : Nat), j < 11 →
    ((commandSamples tie b (.byte d)).drop (j * bitTime b)).take (bitTime b) =
      bitSeq tie b (if j = 0 then 0#1 else if j ≤ 8 then bitAt d (j - 1) else 1#1)

/-- Every byte takes the same time (R142). -/
def Obligations.ByteDurationIndependentOfValue : Prop :=
  ∀ (tie : Config.SineTieLow) (b : BitVec 1) (d : BitVec 8),
    (commandSamples tie b (.byte d)).length = 11 * bitTime b ∧
    (commandSamples tie 0#1 (.byte d)).length = 396 ∧ (commandSamples tie 1#1 (.byte d)).length = 198

/-- `BYTE D` emits what eleven `BIT` commands emit (R143). -/
def Obligations.ByteIsElevenBits : Prop :=
  ∀ (tie : Config.SineTieLow) (b : BitVec 1) (d : BitVec 8),
    streamOf tie b [encode (.byte d)] =
      streamOf tie b (([.bit 0#1, .bit (bitAt d 0), .bit (bitAt d 1), .bit (bitAt d 2), .bit (bitAt d 3),
        .bit (bitAt d 4), .bit (bitAt d 5), .bit (bitAt d 6), .bit (bitAt d 7), .bit 1#1, .bit 1#1] : List Instr).map
          encode)

/-- The reference decoder reads every byte back from its frame, because the two bit windows differ (R144). -/
def Obligations.FrameDecodesBack : Prop :=
  (∀ (tie : Config.SineTieLow) (b : BitVec 1), bitSeq tie b 0#1 ≠ bitSeq tie b 1#1) ∧
  (∀ tie : Config.SineTieLow, (bitSeq tie 0#1 0#1)[1]? = some 150#8 ∧ (bitSeq tie 0#1 1#1)[1]? = some 171#8 ∧
    (bitSeq tie 1#1 0#1)[1]? = some 171#8 ∧ (bitSeq tie 1#1 1#1)[1]? = some 210#8) ∧
  ∀ (tie : Config.SineTieLow) (b : BitVec 1) (d : BitVec 8),
    decodeFrame tie b (commandSamples tie b (.byte d)) = some d

/-- A sync tone lasts 36 · N samples, that is N / 1200 seconds, at both rates, and has 2N pulses at 1200 baud, 4N at
2400 (R151, R152). -/
def Obligations.SyncToneDuration : Prop :=
  (∀ (tie : Config.SineTieLow) (b : BitVec 1) (n : BitVec 28),
    (commandSamples tie b (.sync n)).length = 36 * n.toNat ∧
    (commandSamples tie b (.sync n)).length = syncCount b n * bitTime b ∧
    (commandSamples tie b (.sync n)).length * 1200 = n.toNat * Config.sampleRate ∧
    commandSamples tie b (.sync n) = repeatSeq (2 * syncCount b n) (pulseWave tie (pulseLen b 1#1)) ∧
    syncCount b n * 1200 = n.toNat * baudOf b) ∧
  ∀ n : BitVec 28, syncCount 0#1 n = n.toNat ∧ syncCount 1#1 n = 2 * n.toNat

/-- The laws of `SYNC` (R153), where the sum is a count the field holds. -/
def Obligations.SyncLaws : Prop :=
  (∀ (tie : Config.SineTieLow) (bd : BitVec 1) (a b : BitVec 28), a.toNat + b.toNat < 2 ^ 28 →
    streamOf tie bd [encode (.sync a), encode (.sync b)] =
      streamOf tie bd [encode (.sync (BitVec.ofNat 28 (a.toNat + b.toNat)))]) ∧
  (∀ (tie : Config.SineTieLow) (bd : BitVec 1) (n : BitVec 28),
    streamOf tie bd [encode (.sync n)] =
      streamOf tie bd (List.replicate (n.toNat * baudOf bd / 1200) (encode (.bit 1#1))))

/-- `BIT 1` is `PULSE 2400` twice and `BIT 0` is `PULSE 1200` (R135). -/
def Obligations.BitIsOneOrTwoPulses : Prop :=
  ∀ (tie : Config.SineTieLow) (b : BitVec 1),
    streamOf tie b [encode (.bit 1#1)] = streamOf tie b [encode (.pulse 1#1), encode (.pulse 1#1)] ∧
    streamOf tie b [encode (.bit 0#1)] = streamOf tie b [encode (.pulse 0#1)]

/-- A baud change acts from the very next command: the rate of a command is that of the last `SETBAUD` before it (R160,
R215). -/
def Obligations.SetbaudActsOnLaterCommands : Prop :=
  ∀ (tie : Config.SineTieLow) (b b' : BitVec 1) (ws : List Word),
    streamOf tie b (encode (.setbaud b') :: ws) = streamOf tie b' ws ∧
    (∀ n : BitVec 28, streamOf tie b (encode (.silence n) :: ws) =
      List.replicate n.toNat 128#8 ++ streamOf tie b ws)

/-- The duration of every command in samples (R220). -/
def Obligations.CommandDurations : Prop :=
  ∀ (tie : Config.SineTieLow),
    (∀ (b : BitVec 1) (n : BitVec 28), (wordSamples tie b (encode (.silence n))).length = n.toNat) ∧
    (wordSamples tie 0#1 (encode (.pulse 0#1))).length = 36 ∧ (wordSamples tie 1#1 (encode (.pulse 0#1))).length = 18 ∧
    (wordSamples tie 0#1 (encode (.pulse 1#1))).length = 18 ∧ (wordSamples tie 1#1 (encode (.pulse 1#1))).length = 9 ∧
    (∀ v : BitVec 1, (wordSamples tie 0#1 (encode (.bit v))).length = 36 ∧
      (wordSamples tie 1#1 (encode (.bit v))).length = 18) ∧
    (∀ d : BitVec 8, (wordSamples tie 0#1 (encode (.byte d))).length = 396 ∧
      (wordSamples tie 1#1 (encode (.byte d))).length = 198) ∧
    (∀ (b : BitVec 1) (n : BitVec 28), (wordSamples tie b (encode (.sync n))).length = 36 * n.toNat) ∧
    (∀ b b' : BitVec 1, (wordSamples tie b (encode (.setbaud b'))).length = 0) ∧
    (∀ (b : BitVec 1) (w : Word) (c : Cause), decode w = .error c → (wordSamples tie b w).length = 0)

/-! The assembler: 30_encoding.md R81, R84. -/

/-- A count above 2^28 − 1 expands to as many commands of that count as fit and one with the remainder, which together
emit what one wide command would (R84). -/
def Obligations.LargeCountsAreSplit : Prop :=
  ∀ n : Nat, 2 ^ 28 - 1 < n →
    ((∃ ws, assembleLine (.silence n) = some ws ∧
      ws = List.replicate (n / (2 ^ 28 - 1)) 0x1FFFFFFF#32 ++ [encode (.silence (BitVec.ofNat 28 (n % (2 ^ 28 - 1))))] ∧
      ∀ (tie : Config.SineTieLow) (b : BitVec 1), streamOf tie b ws = List.replicate n 128#8) ∧
    (∃ ws, assembleLine (.sync n) = some ws ∧
      ws = List.replicate (n / (2 ^ 28 - 1)) 0x5FFFFFFF#32 ++ [encode (.sync (BitVec.ofNat 28 (n % (2 ^ 28 - 1))))] ∧
      ∀ (tie : Config.SineTieLow) (b : BitVec 1),
        streamOf tie b ws = repeatSeq (n * baudOf b / 1200) (bitSeq tie b 1#1)))

/-- The assembler's words (R81), and no word for an operand outside its range. -/
def Obligations.AssemblerWords : Prop :=
  (∀ n < 2 ^ 28, assembleLine (.silence n) = some [BitVec.ofNat 32 (0x10000000 + n)] ∧
    assembleLine (.sync n) = some [BitVec.ofNat 32 (0x50000000 + n)]) ∧
  (∀ d ≤ 255, assembleLine (.byte d) = some [BitVec.ofNat 32 (0x40000000 + d)]) ∧
  assembleLine (.pulse 1200) = some [0x20000000#32] ∧ assembleLine (.pulse 2400) = some [0x20000001#32] ∧
  assembleLine (.bit 0) = some [0x30000000#32] ∧ assembleLine (.bit 1) = some [0x30000001#32] ∧
  assembleLine (.setbaud 1200) = some [0x60000000#32] ∧ assembleLine (.setbaud 2400) = some [0x60000001#32] ∧
  (∀ w < 2 ^ 32, assembleLine (.rawWord w) = some [BitVec.ofNat 32 w]) ∧
  (∀ v, v ≠ 1200 → v ≠ 2400 → assembleLine (.pulse v) = none ∧ assembleLine (.setbaud v) = none) ∧
  (∀ v, 1 < v → assembleLine (.bit v) = none) ∧ (∀ d, 255 < d → assembleLine (.byte d) = none) ∧
  (∀ w, 2 ^ 32 ≤ w → assembleLine (.rawWord w) = none)
end

