-- ==== Sys2Proof/Laws/AsmText.lean ====
section
/-! SUPPORT. What marking the quoted characters of a text can do. -/

namespace Sys2Proof.Machine

/-- Marking keeps every character in its place. -/
@[simp] theorem markQuoted_map_fst (q : Bool) (cs : List Char) : (markQuoted q cs).map Prod.fst = cs := by
  induction q, cs using markQuoted.induct with
  | case1 => simp [markQuoted]
  | case4 a b c cs hq ih => rw [markQuoted, if_neg hq, List.map_cons, ih]
  | _ => simp_all [markQuoted]

/-- The text before the comment is a prefix of the text. -/
theorem stripComment_prefix (cs : List Char) : stripComment cs <+: cs := by
  have h := (List.takeWhile_prefix (l := markQuoted false cs) fun c => c != (';', false)).map Prod.fst
  simpa [stripComment] using h

end Sys2Proof.Machine
end

