-- ==== Sys2Proof/Laws/Operands.lean ====
section
/-! SUPPORT. Small lemmas of the operand definitions: one-bit values, pulse lengths, lengths of the sample sequences. -/

namespace Sys2Proof.Machine

/-- A one-bit value is 0 or 1. -/
theorem bit_cases (b : BitVec 1) : b = 0#1 ∨ b = 1#1 := by revert b; decide

@[simp] theorem baudOf_zero : baudOf 0#1 = 1200 := rfl
@[simp] theorem baudOf_one : baudOf 1#1 = 2400 := rfl
@[simp] theorem freqOf_zero : freqOf 0#1 = 1200 := rfl
@[simp] theorem freqOf_one : freqOf 1#1 = 2400 := rfl

/-- Every pulse has at least nine samples, and at most as many as 6 bits of `K` count. -/
theorem pulseLen_bounds (b f : BitVec 1) : 9 ≤ pulseLen b f ∧ pulseLen b f ≤ 36 := by revert b f; decide

/-- A bit-time is one long pulse or two short ones. -/
theorem bitTime_eq_pulses (b : BitVec 1) : bitTime b = pulseLen b 0#1 ∧ bitTime b = 2 * pulseLen b 1#1 := by
  revert b; decide

@[simp] theorem pulseWave_length (tie : Config.SineTieLow) (L : Nat) : (pulseWave tie L).length = L := by
  simp [pulseWave]

/-- Sample `k` of a pulse is the ROM entry at `floor(k * 360 / L)`. -/
theorem pulseWave_getElem (tie : Config.SineTieLow) (L k : Nat) (h : k < (pulseWave tie L).length) :
    (pulseWave tie L)[k] = romEntry tie ⟨romIndex k L, romIndex_lt (by simpa using h)⟩ := by
  simp [pulseWave]

@[simp] theorem bitSeq_length (tie : Config.SineTieLow) (b v : BitVec 1) : (bitSeq tie b v).length = bitTime b := by
  have h := bitTime_eq_pulses b
  unfold bitSeq
  split <;> simp <;> omega

@[simp] theorem repeatSeq_zero (s : List Sample) : repeatSeq 0 s = [] := rfl

theorem repeatSeq_succ (n : Nat) (s : List Sample) : repeatSeq (n + 1) s = s ++ repeatSeq n s := by
  simp [repeatSeq, List.replicate_succ]

@[simp] theorem repeatSeq_length (n : Nat) (s : List Sample) : (repeatSeq n s).length = n * s.length := by
  simp [repeatSeq]

theorem repeatSeq_add (m n : Nat) (s : List Sample) : repeatSeq (m + n) s = repeatSeq m s ++ repeatSeq n s := by
  rw [repeatSeq, ← List.replicate_append_replicate, List.flatten_append]
  rfl

/-- A read of the ROM within a pulse finds the entry. -/
theorem romRead_romIndex (tie : Config.SineTieLow) {k L : Nat} (h : k < L) :
    romRead tie (romIndex k L) = .ok (romEntry tie ⟨romIndex k L, romIndex_lt h⟩) := by
  simp [romRead, romIndex_lt h]

section
variable (tie : Config.SineTieLow) (b : BitVec 1)
@[simp] theorem commandSamples_silence (n : BitVec 28) :
    commandSamples tie b (.silence n) = repeatSeq n.toNat [Config.dcBias] := rfl
@[simp] theorem commandSamples_pulse (f : BitVec 1) : commandSamples tie b (.pulse f) = pulseWave tie (pulseLen b f) := rfl
@[simp] theorem commandSamples_bit (v : BitVec 1) : commandSamples tie b (.bit v) = bitSeq tie b v := rfl
@[simp] theorem commandSamples_byte (d : BitVec 8) : commandSamples tie b (.byte d) = frameSeq tie b (frameOf d) := rfl
@[simp] theorem commandSamples_sync (n : BitVec 28) :
    commandSamples tie b (.sync n) = repeatSeq (syncCount b n) (bitSeq tie b 1#1) := rfl
@[simp] theorem commandSamples_setbaud (b' : BitVec 1) : commandSamples tie b (.setbaud b') = [] := rfl
end

/-- A sync tone has at most 2 · (2^28 − 1) bits, so `BITS_LEFT` holds what follows the first (R32). -/
theorem syncCount_le (b : BitVec 1) (n : BitVec 28) : syncCount b n ≤ 536870910 := by
  have := n.isLt
  unfold syncCount
  rcases bit_cases b with rfl | rfl <;> simp <;> omega

/-- The bits of a frame after its start bit are what the shift register will hand out (R37, R140). -/
theorem bitAt_frameOf_zero : ∀ d : BitVec 8, bitAt (frameOf d) 0 = 0#1 := by decide +kernel

@[simp] theorem streamOf_nil (tie : Config.SineTieLow) (b : BitVec 1) : streamOf tie b [] = [] := rfl

@[simp] theorem streamOf_cons (tie : Config.SineTieLow) (b : BitVec 1) (w : Word) (ws : List Word) :
    streamOf tie b (w :: ws) = wordSamples tie b w ++ streamOf tie (baudAfter b w) ws := rfl

theorem wordSamples_ok {tie : Config.SineTieLow} {b : BitVec 1} {w : Word} {i : Instr} (h : decode w = .ok i) :
    wordSamples tie b w = commandSamples tie b i := by simp [wordSamples, h]

theorem wordSamples_error {tie : Config.SineTieLow} {b : BitVec 1} {w : Word} {c : Cause} (h : decode w = .error c) :
    wordSamples tie b w = [] := by simp [wordSamples, h]

end Sys2Proof.Machine
end

