-- ==== Sys2Proof/Laws/State.lean ====
section
/-! SUPPORT. What each plain record update of State does to each field: one lemma per field per update, true by rfl,
so that no proof unfolds a record update. -/

namespace Sys2Proof.Machine

section
variable (s : State) (b : BitVec 1)
@[simp] theorem State.setBaudSel_baudSel : (s.setBaudSel b).baudSel = b := rfl
@[simp] theorem State.setBaudSel_err : (s.setBaudSel b).err = s.err := rfl
@[simp] theorem State.setBaudSel_errCode : (s.setBaudSel b).errCode = s.errCode := rfl
@[simp] theorem State.setBaudSel_errCmd : (s.setBaudSel b).errCmd = s.errCmd := rfl
@[simp] theorem State.setBaudSel_mode : (s.setBaudSel b).mode = s.mode := rfl
@[simp] theorem State.setBaudSel_silLeft : (s.setBaudSel b).silLeft = s.silLeft := rfl
@[simp] theorem State.setBaudSel_bitsLeft : (s.setBaudSel b).bitsLeft = s.bitsLeft := rfl
@[simp] theorem State.setBaudSel_shift : (s.setBaudSel b).shift = s.shift := rfl
@[simp] theorem State.setBaudSel_curF : (s.setBaudSel b).curF = s.curF := rfl
@[simp] theorem State.setBaudSel_pulsesLeft : (s.setBaudSel b).pulsesLeft = s.pulsesLeft := rfl
@[simp] theorem State.setBaudSel_k : (s.setBaudSel b).k = s.k := rfl
@[simp] theorem State.setBaudSel_sineTieLow : (s.setBaudSel b).sineTieLow = s.sineTieLow := rfl
@[simp] theorem State.setBaudSel_resetDone : (s.setBaudSel b).resetDone = s.resetDone := rfl
@[simp] theorem State.setBaudSel_inputs : (s.setBaudSel b).inputs = s.inputs := rfl
@[simp] theorem State.setBaudSel_sent : (s.setBaudSel b).sent = s.sent := rfl
end

section
variable (s : State) (c : BitVec 2) (w : Word)
@[simp] theorem State.setError_baudSel : (s.setError c w).baudSel = s.baudSel := rfl
@[simp] theorem State.setError_err : (s.setError c w).err = 1#1 := rfl
@[simp] theorem State.setError_errCode : (s.setError c w).errCode = c := rfl
@[simp] theorem State.setError_errCmd : (s.setError c w).errCmd = w := rfl
@[simp] theorem State.setError_mode : (s.setError c w).mode = s.mode := rfl
@[simp] theorem State.setError_silLeft : (s.setError c w).silLeft = s.silLeft := rfl
@[simp] theorem State.setError_bitsLeft : (s.setError c w).bitsLeft = s.bitsLeft := rfl
@[simp] theorem State.setError_shift : (s.setError c w).shift = s.shift := rfl
@[simp] theorem State.setError_curF : (s.setError c w).curF = s.curF := rfl
@[simp] theorem State.setError_pulsesLeft : (s.setError c w).pulsesLeft = s.pulsesLeft := rfl
@[simp] theorem State.setError_k : (s.setError c w).k = s.k := rfl
@[simp] theorem State.setError_sineTieLow : (s.setError c w).sineTieLow = s.sineTieLow := rfl
@[simp] theorem State.setError_resetDone : (s.setError c w).resetDone = s.resetDone := rfl
@[simp] theorem State.setError_inputs : (s.setError c w).inputs = s.inputs := rfl
@[simp] theorem State.setError_sent : (s.setError c w).sent = s.sent := rfl
end

section
variable (s : State) (n : BitVec 28)
@[simp] theorem State.startSilence_baudSel : (s.startSilence n).baudSel = s.baudSel := rfl
@[simp] theorem State.startSilence_err : (s.startSilence n).err = s.err := rfl
@[simp] theorem State.startSilence_errCode : (s.startSilence n).errCode = s.errCode := rfl
@[simp] theorem State.startSilence_errCmd : (s.startSilence n).errCmd = s.errCmd := rfl
@[simp] theorem State.startSilence_mode : (s.startSilence n).mode = M_SILENCE := rfl
@[simp] theorem State.startSilence_silLeft : (s.startSilence n).silLeft = n := rfl
@[simp] theorem State.startSilence_bitsLeft : (s.startSilence n).bitsLeft = s.bitsLeft := rfl
@[simp] theorem State.startSilence_shift : (s.startSilence n).shift = s.shift := rfl
@[simp] theorem State.startSilence_curF : (s.startSilence n).curF = s.curF := rfl
@[simp] theorem State.startSilence_pulsesLeft : (s.startSilence n).pulsesLeft = s.pulsesLeft := rfl
@[simp] theorem State.startSilence_k : (s.startSilence n).k = s.k := rfl
@[simp] theorem State.startSilence_sineTieLow : (s.startSilence n).sineTieLow = s.sineTieLow := rfl
@[simp] theorem State.startSilence_resetDone : (s.startSilence n).resetDone = s.resetDone := rfl
@[simp] theorem State.startSilence_inputs : (s.startSilence n).inputs = s.inputs := rfl
@[simp] theorem State.startSilence_sent : (s.startSilence n).sent = s.sent := rfl
end

section
variable (s : State) (f p : BitVec 1) (m : BitVec 29)
@[simp] theorem State.startTone_baudSel : (s.startTone f p m).baudSel = s.baudSel := rfl
@[simp] theorem State.startTone_err : (s.startTone f p m).err = s.err := rfl
@[simp] theorem State.startTone_errCode : (s.startTone f p m).errCode = s.errCode := rfl
@[simp] theorem State.startTone_errCmd : (s.startTone f p m).errCmd = s.errCmd := rfl
@[simp] theorem State.startTone_mode : (s.startTone f p m).mode = M_TONE := rfl
@[simp] theorem State.startTone_silLeft : (s.startTone f p m).silLeft = s.silLeft := rfl
@[simp] theorem State.startTone_bitsLeft : (s.startTone f p m).bitsLeft = m := rfl
@[simp] theorem State.startTone_shift : (s.startTone f p m).shift = s.shift := rfl
@[simp] theorem State.startTone_curF : (s.startTone f p m).curF = f := rfl
@[simp] theorem State.startTone_pulsesLeft : (s.startTone f p m).pulsesLeft = p := rfl
@[simp] theorem State.startTone_k : (s.startTone f p m).k = 0#6 := rfl
@[simp] theorem State.startTone_sineTieLow : (s.startTone f p m).sineTieLow = s.sineTieLow := rfl
@[simp] theorem State.startTone_resetDone : (s.startTone f p m).resetDone = s.resetDone := rfl
@[simp] theorem State.startTone_inputs : (s.startTone f p m).inputs = s.inputs := rfl
@[simp] theorem State.startTone_sent : (s.startTone f p m).sent = s.sent := rfl
end

section
variable (s : State) (v : BitVec 11)
@[simp] theorem State.setShift_baudSel : (s.setShift v).baudSel = s.baudSel := rfl
@[simp] theorem State.setShift_err : (s.setShift v).err = s.err := rfl
@[simp] theorem State.setShift_errCode : (s.setShift v).errCode = s.errCode := rfl
@[simp] theorem State.setShift_errCmd : (s.setShift v).errCmd = s.errCmd := rfl
@[simp] theorem State.setShift_mode : (s.setShift v).mode = s.mode := rfl
@[simp] theorem State.setShift_silLeft : (s.setShift v).silLeft = s.silLeft := rfl
@[simp] theorem State.setShift_bitsLeft : (s.setShift v).bitsLeft = s.bitsLeft := rfl
@[simp] theorem State.setShift_shift : (s.setShift v).shift = v := rfl
@[simp] theorem State.setShift_curF : (s.setShift v).curF = s.curF := rfl
@[simp] theorem State.setShift_pulsesLeft : (s.setShift v).pulsesLeft = s.pulsesLeft := rfl
@[simp] theorem State.setShift_k : (s.setShift v).k = s.k := rfl
@[simp] theorem State.setShift_sineTieLow : (s.setShift v).sineTieLow = s.sineTieLow := rfl
@[simp] theorem State.setShift_resetDone : (s.setShift v).resetDone = s.resetDone := rfl
@[simp] theorem State.setShift_inputs : (s.setShift v).inputs = s.inputs := rfl
@[simp] theorem State.setShift_sent : (s.setShift v).sent = s.sent := rfl
end

section
variable (s : State) (m : BitVec 2)
@[simp] theorem State.setMode_baudSel : (s.setMode m).baudSel = s.baudSel := rfl
@[simp] theorem State.setMode_err : (s.setMode m).err = s.err := rfl
@[simp] theorem State.setMode_errCode : (s.setMode m).errCode = s.errCode := rfl
@[simp] theorem State.setMode_errCmd : (s.setMode m).errCmd = s.errCmd := rfl
@[simp] theorem State.setMode_mode : (s.setMode m).mode = m := rfl
@[simp] theorem State.setMode_silLeft : (s.setMode m).silLeft = s.silLeft := rfl
@[simp] theorem State.setMode_bitsLeft : (s.setMode m).bitsLeft = s.bitsLeft := rfl
@[simp] theorem State.setMode_shift : (s.setMode m).shift = s.shift := rfl
@[simp] theorem State.setMode_curF : (s.setMode m).curF = s.curF := rfl
@[simp] theorem State.setMode_pulsesLeft : (s.setMode m).pulsesLeft = s.pulsesLeft := rfl
@[simp] theorem State.setMode_k : (s.setMode m).k = s.k := rfl
@[simp] theorem State.setMode_sineTieLow : (s.setMode m).sineTieLow = s.sineTieLow := rfl
@[simp] theorem State.setMode_resetDone : (s.setMode m).resetDone = s.resetDone := rfl
@[simp] theorem State.setMode_inputs : (s.setMode m).inputs = s.inputs := rfl
@[simp] theorem State.setMode_sent : (s.setMode m).sent = s.sent := rfl
end

section
variable (s : State) (n : BitVec 28)
@[simp] theorem State.setSilLeft_baudSel : (s.setSilLeft n).baudSel = s.baudSel := rfl
@[simp] theorem State.setSilLeft_err : (s.setSilLeft n).err = s.err := rfl
@[simp] theorem State.setSilLeft_errCode : (s.setSilLeft n).errCode = s.errCode := rfl
@[simp] theorem State.setSilLeft_errCmd : (s.setSilLeft n).errCmd = s.errCmd := rfl
@[simp] theorem State.setSilLeft_mode : (s.setSilLeft n).mode = s.mode := rfl
@[simp] theorem State.setSilLeft_silLeft : (s.setSilLeft n).silLeft = n := rfl
@[simp] theorem State.setSilLeft_bitsLeft : (s.setSilLeft n).bitsLeft = s.bitsLeft := rfl
@[simp] theorem State.setSilLeft_shift : (s.setSilLeft n).shift = s.shift := rfl
@[simp] theorem State.setSilLeft_curF : (s.setSilLeft n).curF = s.curF := rfl
@[simp] theorem State.setSilLeft_pulsesLeft : (s.setSilLeft n).pulsesLeft = s.pulsesLeft := rfl
@[simp] theorem State.setSilLeft_k : (s.setSilLeft n).k = s.k := rfl
@[simp] theorem State.setSilLeft_sineTieLow : (s.setSilLeft n).sineTieLow = s.sineTieLow := rfl
@[simp] theorem State.setSilLeft_resetDone : (s.setSilLeft n).resetDone = s.resetDone := rfl
@[simp] theorem State.setSilLeft_inputs : (s.setSilLeft n).inputs = s.inputs := rfl
@[simp] theorem State.setSilLeft_sent : (s.setSilLeft n).sent = s.sent := rfl
end

section
variable (s : State) (n : BitVec 6)
@[simp] theorem State.setK_baudSel : (s.setK n).baudSel = s.baudSel := rfl
@[simp] theorem State.setK_err : (s.setK n).err = s.err := rfl
@[simp] theorem State.setK_errCode : (s.setK n).errCode = s.errCode := rfl
@[simp] theorem State.setK_errCmd : (s.setK n).errCmd = s.errCmd := rfl
@[simp] theorem State.setK_mode : (s.setK n).mode = s.mode := rfl
@[simp] theorem State.setK_silLeft : (s.setK n).silLeft = s.silLeft := rfl
@[simp] theorem State.setK_bitsLeft : (s.setK n).bitsLeft = s.bitsLeft := rfl
@[simp] theorem State.setK_shift : (s.setK n).shift = s.shift := rfl
@[simp] theorem State.setK_curF : (s.setK n).curF = s.curF := rfl
@[simp] theorem State.setK_pulsesLeft : (s.setK n).pulsesLeft = s.pulsesLeft := rfl
@[simp] theorem State.setK_k : (s.setK n).k = n := rfl
@[simp] theorem State.setK_sineTieLow : (s.setK n).sineTieLow = s.sineTieLow := rfl
@[simp] theorem State.setK_resetDone : (s.setK n).resetDone = s.resetDone := rfl
@[simp] theorem State.setK_inputs : (s.setK n).inputs = s.inputs := rfl
@[simp] theorem State.setK_sent : (s.setK n).sent = s.sent := rfl
end

section
variable (s : State) (p : BitVec 1)
@[simp] theorem State.setPulsesLeft_baudSel : (s.setPulsesLeft p).baudSel = s.baudSel := rfl
@[simp] theorem State.setPulsesLeft_err : (s.setPulsesLeft p).err = s.err := rfl
@[simp] theorem State.setPulsesLeft_errCode : (s.setPulsesLeft p).errCode = s.errCode := rfl
@[simp] theorem State.setPulsesLeft_errCmd : (s.setPulsesLeft p).errCmd = s.errCmd := rfl
@[simp] theorem State.setPulsesLeft_mode : (s.setPulsesLeft p).mode = s.mode := rfl
@[simp] theorem State.setPulsesLeft_silLeft : (s.setPulsesLeft p).silLeft = s.silLeft := rfl
@[simp] theorem State.setPulsesLeft_bitsLeft : (s.setPulsesLeft p).bitsLeft = s.bitsLeft := rfl
@[simp] theorem State.setPulsesLeft_shift : (s.setPulsesLeft p).shift = s.shift := rfl
@[simp] theorem State.setPulsesLeft_curF : (s.setPulsesLeft p).curF = s.curF := rfl
@[simp] theorem State.setPulsesLeft_pulsesLeft : (s.setPulsesLeft p).pulsesLeft = p := rfl
@[simp] theorem State.setPulsesLeft_k : (s.setPulsesLeft p).k = s.k := rfl
@[simp] theorem State.setPulsesLeft_sineTieLow : (s.setPulsesLeft p).sineTieLow = s.sineTieLow := rfl
@[simp] theorem State.setPulsesLeft_resetDone : (s.setPulsesLeft p).resetDone = s.resetDone := rfl
@[simp] theorem State.setPulsesLeft_inputs : (s.setPulsesLeft p).inputs = s.inputs := rfl
@[simp] theorem State.setPulsesLeft_sent : (s.setPulsesLeft p).sent = s.sent := rfl
end

section
variable (s : State) (m : BitVec 29)
@[simp] theorem State.setBitsLeft_baudSel : (s.setBitsLeft m).baudSel = s.baudSel := rfl
@[simp] theorem State.setBitsLeft_err : (s.setBitsLeft m).err = s.err := rfl
@[simp] theorem State.setBitsLeft_errCode : (s.setBitsLeft m).errCode = s.errCode := rfl
@[simp] theorem State.setBitsLeft_errCmd : (s.setBitsLeft m).errCmd = s.errCmd := rfl
@[simp] theorem State.setBitsLeft_mode : (s.setBitsLeft m).mode = s.mode := rfl
@[simp] theorem State.setBitsLeft_silLeft : (s.setBitsLeft m).silLeft = s.silLeft := rfl
@[simp] theorem State.setBitsLeft_bitsLeft : (s.setBitsLeft m).bitsLeft = m := rfl
@[simp] theorem State.setBitsLeft_shift : (s.setBitsLeft m).shift = s.shift := rfl
@[simp] theorem State.setBitsLeft_curF : (s.setBitsLeft m).curF = s.curF := rfl
@[simp] theorem State.setBitsLeft_pulsesLeft : (s.setBitsLeft m).pulsesLeft = s.pulsesLeft := rfl
@[simp] theorem State.setBitsLeft_k : (s.setBitsLeft m).k = s.k := rfl
@[simp] theorem State.setBitsLeft_sineTieLow : (s.setBitsLeft m).sineTieLow = s.sineTieLow := rfl
@[simp] theorem State.setBitsLeft_resetDone : (s.setBitsLeft m).resetDone = s.resetDone := rfl
@[simp] theorem State.setBitsLeft_inputs : (s.setBitsLeft m).inputs = s.inputs := rfl
@[simp] theorem State.setBitsLeft_sent : (s.setBitsLeft m).sent = s.sent := rfl
end

section
variable (s : State) (f : BitVec 1)
@[simp] theorem State.setCurF_baudSel : (s.setCurF f).baudSel = s.baudSel := rfl
@[simp] theorem State.setCurF_err : (s.setCurF f).err = s.err := rfl
@[simp] theorem State.setCurF_errCode : (s.setCurF f).errCode = s.errCode := rfl
@[simp] theorem State.setCurF_errCmd : (s.setCurF f).errCmd = s.errCmd := rfl
@[simp] theorem State.setCurF_mode : (s.setCurF f).mode = s.mode := rfl
@[simp] theorem State.setCurF_silLeft : (s.setCurF f).silLeft = s.silLeft := rfl
@[simp] theorem State.setCurF_bitsLeft : (s.setCurF f).bitsLeft = s.bitsLeft := rfl
@[simp] theorem State.setCurF_shift : (s.setCurF f).shift = s.shift := rfl
@[simp] theorem State.setCurF_curF : (s.setCurF f).curF = f := rfl
@[simp] theorem State.setCurF_pulsesLeft : (s.setCurF f).pulsesLeft = s.pulsesLeft := rfl
@[simp] theorem State.setCurF_k : (s.setCurF f).k = s.k := rfl
@[simp] theorem State.setCurF_sineTieLow : (s.setCurF f).sineTieLow = s.sineTieLow := rfl
@[simp] theorem State.setCurF_resetDone : (s.setCurF f).resetDone = s.resetDone := rfl
@[simp] theorem State.setCurF_inputs : (s.setCurF f).inputs = s.inputs := rfl
@[simp] theorem State.setCurF_sent : (s.setCurF f).sent = s.sent := rfl
end

section
variable (s : State) (x : Sample)
@[simp] theorem State.pushSent_baudSel : (s.pushSent x).baudSel = s.baudSel := rfl
@[simp] theorem State.pushSent_err : (s.pushSent x).err = s.err := rfl
@[simp] theorem State.pushSent_errCode : (s.pushSent x).errCode = s.errCode := rfl
@[simp] theorem State.pushSent_errCmd : (s.pushSent x).errCmd = s.errCmd := rfl
@[simp] theorem State.pushSent_mode : (s.pushSent x).mode = s.mode := rfl
@[simp] theorem State.pushSent_silLeft : (s.pushSent x).silLeft = s.silLeft := rfl
@[simp] theorem State.pushSent_bitsLeft : (s.pushSent x).bitsLeft = s.bitsLeft := rfl
@[simp] theorem State.pushSent_shift : (s.pushSent x).shift = s.shift := rfl
@[simp] theorem State.pushSent_curF : (s.pushSent x).curF = s.curF := rfl
@[simp] theorem State.pushSent_pulsesLeft : (s.pushSent x).pulsesLeft = s.pulsesLeft := rfl
@[simp] theorem State.pushSent_k : (s.pushSent x).k = s.k := rfl
@[simp] theorem State.pushSent_sineTieLow : (s.pushSent x).sineTieLow = s.sineTieLow := rfl
@[simp] theorem State.pushSent_resetDone : (s.pushSent x).resetDone = s.resetDone := rfl
@[simp] theorem State.pushSent_inputs : (s.pushSent x).inputs = s.inputs := rfl
@[simp] theorem State.pushSent_sent : (s.pushSent x).sent = s.sent ++ [x] := rfl
end

section
variable (s : State) (ps : List Pins)
@[simp] theorem State.setInputs_baudSel : (s.setInputs ps).baudSel = s.baudSel := rfl
@[simp] theorem State.setInputs_err : (s.setInputs ps).err = s.err := rfl
@[simp] theorem State.setInputs_errCode : (s.setInputs ps).errCode = s.errCode := rfl
@[simp] theorem State.setInputs_errCmd : (s.setInputs ps).errCmd = s.errCmd := rfl
@[simp] theorem State.setInputs_mode : (s.setInputs ps).mode = s.mode := rfl
@[simp] theorem State.setInputs_silLeft : (s.setInputs ps).silLeft = s.silLeft := rfl
@[simp] theorem State.setInputs_bitsLeft : (s.setInputs ps).bitsLeft = s.bitsLeft := rfl
@[simp] theorem State.setInputs_shift : (s.setInputs ps).shift = s.shift := rfl
@[simp] theorem State.setInputs_curF : (s.setInputs ps).curF = s.curF := rfl
@[simp] theorem State.setInputs_pulsesLeft : (s.setInputs ps).pulsesLeft = s.pulsesLeft := rfl
@[simp] theorem State.setInputs_k : (s.setInputs ps).k = s.k := rfl
@[simp] theorem State.setInputs_sineTieLow : (s.setInputs ps).sineTieLow = s.sineTieLow := rfl
@[simp] theorem State.setInputs_resetDone : (s.setInputs ps).resetDone = s.resetDone := rfl
@[simp] theorem State.setInputs_inputs : (s.setInputs ps).inputs = ps := rfl
@[simp] theorem State.setInputs_sent : (s.setInputs ps).sent = s.sent := rfl
end

section
variable (s : State) (t : Config.SineTieLow)
@[simp] theorem State.setSineTieLow_baudSel : (s.setSineTieLow t).baudSel = s.baudSel := rfl
@[simp] theorem State.setSineTieLow_err : (s.setSineTieLow t).err = s.err := rfl
@[simp] theorem State.setSineTieLow_errCode : (s.setSineTieLow t).errCode = s.errCode := rfl
@[simp] theorem State.setSineTieLow_errCmd : (s.setSineTieLow t).errCmd = s.errCmd := rfl
@[simp] theorem State.setSineTieLow_mode : (s.setSineTieLow t).mode = s.mode := rfl
@[simp] theorem State.setSineTieLow_silLeft : (s.setSineTieLow t).silLeft = s.silLeft := rfl
@[simp] theorem State.setSineTieLow_bitsLeft : (s.setSineTieLow t).bitsLeft = s.bitsLeft := rfl
@[simp] theorem State.setSineTieLow_shift : (s.setSineTieLow t).shift = s.shift := rfl
@[simp] theorem State.setSineTieLow_curF : (s.setSineTieLow t).curF = s.curF := rfl
@[simp] theorem State.setSineTieLow_pulsesLeft : (s.setSineTieLow t).pulsesLeft = s.pulsesLeft := rfl
@[simp] theorem State.setSineTieLow_k : (s.setSineTieLow t).k = s.k := rfl
@[simp] theorem State.setSineTieLow_sineTieLow : (s.setSineTieLow t).sineTieLow = t := rfl
@[simp] theorem State.setSineTieLow_resetDone : (s.setSineTieLow t).resetDone = s.resetDone := rfl
@[simp] theorem State.setSineTieLow_inputs : (s.setSineTieLow t).inputs = s.inputs := rfl
@[simp] theorem State.setSineTieLow_sent : (s.setSineTieLow t).sent = s.sent := rfl
end

section
variable (s : State) (d : Bool)
@[simp] theorem State.setResetDone_baudSel : (s.setResetDone d).baudSel = s.baudSel := rfl
@[simp] theorem State.setResetDone_err : (s.setResetDone d).err = s.err := rfl
@[simp] theorem State.setResetDone_errCode : (s.setResetDone d).errCode = s.errCode := rfl
@[simp] theorem State.setResetDone_errCmd : (s.setResetDone d).errCmd = s.errCmd := rfl
@[simp] theorem State.setResetDone_mode : (s.setResetDone d).mode = s.mode := rfl
@[simp] theorem State.setResetDone_silLeft : (s.setResetDone d).silLeft = s.silLeft := rfl
@[simp] theorem State.setResetDone_bitsLeft : (s.setResetDone d).bitsLeft = s.bitsLeft := rfl
@[simp] theorem State.setResetDone_shift : (s.setResetDone d).shift = s.shift := rfl
@[simp] theorem State.setResetDone_curF : (s.setResetDone d).curF = s.curF := rfl
@[simp] theorem State.setResetDone_pulsesLeft : (s.setResetDone d).pulsesLeft = s.pulsesLeft := rfl
@[simp] theorem State.setResetDone_k : (s.setResetDone d).k = s.k := rfl
@[simp] theorem State.setResetDone_sineTieLow : (s.setResetDone d).sineTieLow = s.sineTieLow := rfl
@[simp] theorem State.setResetDone_resetDone : (s.setResetDone d).resetDone = d := rfl
@[simp] theorem State.setResetDone_inputs : (s.setResetDone d).inputs = s.inputs := rfl
@[simp] theorem State.setResetDone_sent : (s.setResetDone d).sent = s.sent := rfl
end

section
@[simp] theorem State.reset_baudSel : State.reset.baudSel = 0#1 := rfl
@[simp] theorem State.reset_err : State.reset.err = 0#1 := rfl
@[simp] theorem State.reset_errCode : State.reset.errCode = 0#2 := rfl
@[simp] theorem State.reset_errCmd : State.reset.errCmd = 0#32 := rfl
@[simp] theorem State.reset_mode : State.reset.mode = M_IDLE := rfl
@[simp] theorem State.reset_silLeft : State.reset.silLeft = 0#28 := rfl
@[simp] theorem State.reset_bitsLeft : State.reset.bitsLeft = 0#29 := rfl
@[simp] theorem State.reset_shift : State.reset.shift = 0#11 := rfl
@[simp] theorem State.reset_curF : State.reset.curF = 0#1 := rfl
@[simp] theorem State.reset_pulsesLeft : State.reset.pulsesLeft = 0#1 := rfl
@[simp] theorem State.reset_k : State.reset.k = 0#6 := rfl
@[simp] theorem State.reset_sineTieLow : State.reset.sineTieLow = .tie64 := rfl
@[simp] theorem State.reset_resetDone : State.reset.resetDone = true := rfl
@[simp] theorem State.reset_inputs : State.reset.inputs = [] := rfl
@[simp] theorem State.reset_sent : State.reset.sent = [] := rfl
end

end Sys2Proof.Machine
end

