-- ==== Sys2Proof/Laws/Ops.lean ====
section
/-! SUPPORT. One lemma per shared operation that says once everything it can do; later proofs cite it instead of
unfolding the operation. -/

namespace Sys2Proof.Machine

/-! Input levels. -/

@[simp] theorem State.popInput_inputs (s : State) : s.popInput.inputs = s.inputs.tail := rfl
@[simp] theorem State.popInput_baudSel (s : State) : s.popInput.baudSel = s.baudSel := rfl
@[simp] theorem State.popInput_err (s : State) : s.popInput.err = s.err := rfl
@[simp] theorem State.popInput_errCode (s : State) : s.popInput.errCode = s.errCode := rfl
@[simp] theorem State.popInput_errCmd (s : State) : s.popInput.errCmd = s.errCmd := rfl
@[simp] theorem State.popInput_mode (s : State) : s.popInput.mode = s.mode := rfl
@[simp] theorem State.popInput_silLeft (s : State) : s.popInput.silLeft = s.silLeft := rfl
@[simp] theorem State.popInput_bitsLeft (s : State) : s.popInput.bitsLeft = s.bitsLeft := rfl
@[simp] theorem State.popInput_shift (s : State) : s.popInput.shift = s.shift := rfl
@[simp] theorem State.popInput_curF (s : State) : s.popInput.curF = s.curF := rfl
@[simp] theorem State.popInput_pulsesLeft (s : State) : s.popInput.pulsesLeft = s.pulsesLeft := rfl
@[simp] theorem State.popInput_k (s : State) : s.popInput.k = s.k := rfl
@[simp] theorem State.popInput_sineTieLow (s : State) : s.popInput.sineTieLow = s.sineTieLow := rfl
@[simp] theorem State.popInput_resetDone (s : State) : s.popInput.resetDone = s.resetDone := rfl
@[simp] theorem State.popInput_sent (s : State) : s.popInput.sent = s.sent := rfl
@[simp] theorem State.popInput_pending (s : State) : s.popInput.pending = s.pending := rfl
@[simp] theorem State.popInput_presented (s : State) : s.popInput.presented = s.presented := rfl
@[simp] theorem State.popInput_curLen (s : State) : s.popInput.curLen = s.curLen := rfl
@[simp] theorem State.popInput_idle (s : State) : s.popInput.idle = s.idle := rfl

/-! The reset edge. -/

section
variable (s : State)
@[simp] theorem State.applyReset_baudSel : s.applyReset.baudSel = 0#1 := rfl
@[simp] theorem State.applyReset_err : s.applyReset.err = 0#1 := rfl
@[simp] theorem State.applyReset_errCode : s.applyReset.errCode = 0#2 := rfl
@[simp] theorem State.applyReset_errCmd : s.applyReset.errCmd = 0#32 := rfl
@[simp] theorem State.applyReset_mode : s.applyReset.mode = M_IDLE := rfl
@[simp] theorem State.applyReset_silLeft : s.applyReset.silLeft = 0#28 := rfl
@[simp] theorem State.applyReset_bitsLeft : s.applyReset.bitsLeft = 0#29 := rfl
@[simp] theorem State.applyReset_shift : s.applyReset.shift = 0#11 := rfl
@[simp] theorem State.applyReset_curF : s.applyReset.curF = 0#1 := rfl
@[simp] theorem State.applyReset_pulsesLeft : s.applyReset.pulsesLeft = 0#1 := rfl
@[simp] theorem State.applyReset_k : s.applyReset.k = 0#6 := rfl
@[simp] theorem State.applyReset_sineTieLow : s.applyReset.sineTieLow = s.sineTieLow := rfl
@[simp] theorem State.applyReset_resetDone : s.applyReset.resetDone = true := rfl
@[simp] theorem State.applyReset_inputs : s.applyReset.inputs = s.inputs := rfl
@[simp] theorem State.applyReset_sent : s.applyReset.sent = [] := rfl
@[simp] theorem State.applyReset_pending : s.applyReset.pending = [] := rfl
end

/-- `PENDING` does not depend on the record of transferred samples. -/
@[simp] theorem State.pushSent_pending (s : State) (x : Sample) : (s.pushSent x).pending = s.pending := rfl

theorem State.idle_iff (s : State) : s.idle = true ↔ s.mode = M_IDLE := by simp [State.idle]

/-- The values of `MODE` (R30). -/
theorem mode_cases : ∀ m : BitVec 2, m = M_IDLE ∨ m = M_SILENCE ∨ m = M_TONE ∨ m = 3#2 := by decide

/-- The next bit of the shift register is its bit 1 (R33, R37). -/
theorem bitAt_shiftNext : ∀ v : BitVec 11, bitAt (shiftNext v) 0 = bitv v 1 := by decide +kernel

/-- After a bit completes, the bits to come have moved down by one (R33, R37). -/
theorem bitv_shiftNext (v : BitVec 11) (j : Nat) : bitv (shiftNext v) (j + 1) = bitv v (j + 2) := by
  have within : ∀ v : BitVec 11, ∀ j < 10, bitv (shiftNext v) (j + 1) = bitv v (j + 2) := by decide +kernel
  by_cases h : j < 10
  · exact within v j h
  · unfold bitv
    rw [if_neg (by omega), if_neg (by omega)]

/-- A reset edge, from any state. -/
theorem step_of_reset {s : State} (hr : s.pins.rst = true) :
    edgeOf s = .ok .reset ∧ step s = .next s.popInput.applyReset := by
  have h : edgeOf s = .ok .reset := by simp [edgeOf, hr]
  exact ⟨h, by simp [step, h]⟩

/-- An idle block that has been reset accepts the word it is offered. -/
theorem edgeOf_accept {s : State} (hd : s.resetDone = true) (hi : s.idle = true) (hr : s.pins.rst = false)
    (hv : s.pins.cmdValid = true) : edgeOf s = .ok (.accept s.pins.cmdData) := by
  have hm : s.mode = M_IDLE := s.idle_iff.1 hi
  have h3 : s.mode ≠ 3#2 := by rw [hm]; decide
  simp [edgeOf, hr, hd, h3, State.smpValid, State.cmdReady, hi, hv]

/-- A busy block transfers a sample when the host takes it. -/
theorem edgeOf_transfer {s : State} (hd : s.resetDone = true) (h3 : s.mode ≠ 3#2) (hi : s.idle = false)
    (hr : s.pins.rst = false) (hs : s.pins.smpReady = true) : edgeOf s = .ok .transfer := by
  simp [edgeOf, hr, hd, h3, State.smpValid, hi, hs]

/-- What the sample step keeps: the baud selection, the error report, the build parameter and the host's data. -/
theorem State.advance_frame (s : State) :
    s.advance.baudSel = s.baudSel ∧ s.advance.err = s.err ∧ s.advance.errCode = s.errCode ∧
    s.advance.errCmd = s.errCmd ∧ s.advance.sineTieLow = s.sineTieLow ∧ s.advance.resetDone = s.resetDone ∧
    s.advance.inputs = s.inputs ∧ s.advance.sent = s.sent := by
  unfold State.advance State.tickSilence State.tickTone State.nextBit
  split
  · split <;> simp
  · split
    · split
      · simp
      · split
        · simp
        · split <;> simp
    · simp

/-- Loading a command keeps the baud selection, the error report, the build parameter and the host's data, but for
the baud selection that `SETBAUD` writes; every command ends in a next state. -/
theorem exec_next (i : Instr) (s : State) :
    ∃ t, exec i s = .next t ∧ t.err = s.err ∧ t.errCode = s.errCode ∧ t.errCmd = s.errCmd ∧
      t.sineTieLow = s.sineTieLow ∧ t.resetDone = s.resetDone ∧ t.inputs = s.inputs ∧ t.sent = s.sent := by
  cases i with
  | silence n =>
    refine ⟨_, rfl, ?_⟩
    unfold State.loadSilence
    split <;> simp
  | pulse f => exact ⟨_, rfl, rfl, rfl, rfl, rfl, rfl, rfl, rfl⟩
  | bit v => exact ⟨_, rfl, rfl, rfl, rfl, rfl, rfl, rfl, rfl⟩
  | byte d => exact ⟨_, rfl, rfl, rfl, rfl, rfl, rfl, rfl, rfl⟩
  | sync n =>
    refine ⟨_, rfl, ?_⟩
    unfold State.loadOnes
    split <;> simp [State.loadBits]
  | setbaud b => exact ⟨_, rfl, rfl, rfl, rfl, rfl, rfl, rfl, rfl⟩

/-- A transfer that ends in a next state transferred the presented sample and advanced the registers. -/
theorem transfer_next {s t : State} (h : transfer s = .next t) :
    ∃ x, s.presented = .ok x ∧ t = s.advance.pushSent x := by
  unfold transfer at h
  cases hx : s.presented with
  | ok x => exact ⟨x, rfl, by rw [hx] at h; cases h; rfl⟩
  | error f => rw [hx] at h; cases h

/-- What each event of a rising edge says of the state (R178). -/
theorem edgeOf_ok {s : State} {e : Edge} (h : edgeOf s = .ok e) :
    (e = .reset ∧ s.pins.rst = true) ∨
    (s.pins.rst = false ∧ s.resetDone = false ∧ s.pins.cmdValid = false ∧ s.pins.smpReady = false ∧ e = .hold) ∨
    (s.pins.rst = false ∧ s.resetDone = true ∧ s.mode ≠ 3#2 ∧
      ((e = .transfer ∧ s.mode ≠ M_IDLE ∧ s.pins.smpReady = true) ∨
       (e = .accept s.pins.cmdData ∧ s.mode = M_IDLE ∧ s.pins.cmdValid = true) ∨
       (e = .hold ∧ s.mode ≠ M_IDLE ∧ s.pins.smpReady = false) ∨
       (e = .hold ∧ s.mode = M_IDLE ∧ s.pins.cmdValid = false))) := by
  unfold edgeOf at h
  split at h
  · next hr => cases h; exact .inl ⟨rfl, hr⟩
  · next hr =>
    have hr : s.pins.rst = false := by simpa using hr
    split at h
    · next hd =>
      split at h
      · cases h
      · next hv =>
        cases h
        simp only [Bool.or_eq_true, not_or, Bool.not_eq_true] at hv
        exact .inr (.inl ⟨hr, hd, hv.1, hv.2, rfl⟩)
    · next hd =>
      have hd : s.resetDone = true := by simpa using hd
      split at h
      · cases h
      · next h3 =>
        refine .inr (.inr ⟨hr, hd, h3, ?_⟩)
        by_cases hm : s.mode = M_IDLE
        · simp only [State.smpValid, State.cmdReady, State.idle, hm, decide_true, Bool.not_true, Bool.false_and,
            Bool.false_eq_true, if_false, Bool.not_false, Bool.and_true, Bool.true_and] at h
          split at h
          · next hv => cases h; exact .inr (.inl ⟨rfl, hm, hv⟩)
          · next hv => cases h; exact .inr (.inr (.inr ⟨rfl, hm, by simpa using hv⟩))
        · simp only [State.smpValid, State.cmdReady, State.idle, hm, decide_false, Bool.not_false, Bool.true_and,
            Bool.false_and, Bool.false_eq_true, if_false] at h
          split at h
          · next hs => cases h; exact .inl ⟨rfl, hm, hs⟩
          · next hs => cases h; exact .inr (.inr (.inl ⟨rfl, hm, by simpa using hs⟩))

/-- Everything a step that ends in a next state can have done. -/
theorem step_next {s t : State} (h : step s = .next t) :
    (s.pins.rst = true ∧ t = s.popInput.applyReset) ∨
    (s.pins.rst = false ∧ s.resetDone = true ∧ s.mode ≠ 3#2 ∧ s.mode ≠ M_IDLE ∧ s.pins.smpReady = true ∧
      ∃ x, s.presented = .ok x ∧ t = s.popInput.advance.pushSent x) ∨
    (s.pins.rst = false ∧ s.resetDone = true ∧ s.mode = M_IDLE ∧ s.pins.cmdValid = true ∧
      accept s.pins.cmdData s.popInput = .next t) ∨
    (s.pins.rst = false ∧ t = s.popInput) := by
  unfold step at h
  cases he : edgeOf s with
  | error f => rw [he] at h; cases h
  | ok e =>
    rw [he] at h
    rcases edgeOf_ok he with ⟨rfl, hr⟩ | ⟨hr, -, -, -, rfl⟩ | ⟨hr, hd, h3, hc⟩
    · cases h; exact .inl ⟨hr, rfl⟩
    · cases h; exact .inr (.inr (.inr ⟨hr, rfl⟩))
    · rcases hc with ⟨rfl, hm, hs⟩ | ⟨rfl, hm, hv⟩ | ⟨rfl, hm, hs⟩ | ⟨rfl, hm, hv⟩
      · obtain ⟨x, hx, rfl⟩ := transfer_next h
        exact .inr (.inl ⟨hr, hd, h3, hm, hs, x, by simpa using hx, rfl⟩)
      · exact .inr (.inr (.inl ⟨hr, hd, hm, hv, h⟩))
      · cases h; exact .inr (.inr (.inr ⟨hr, rfl⟩))
      · cases h; exact .inr (.inr (.inr ⟨hr, rfl⟩))

/-- When an observation is a fault, and which (R26, R30, R202). -/
@[simp] theorem State.observationFault_eq_none (s : State) :
    s.observationFault = none ↔ s.resetDone = true ∧ s.mode ≠ 3#2 ∧ s.errCode ≠ 3#2 := by
  unfold State.observationFault
  split
  · simp_all
  · split
    · simp_all
    · split <;> simp_all

/-- No observation of a live block is a fault. -/
theorem State.Live.observationFault {s : State} (hl : s.Live) : s.observationFault = none :=
  s.observationFault_eq_none.2 ⟨hl.1, (hl.2 hl.1).2.1, (hl.2 hl.1).1.2.1⟩

/-- Everything a successful observation of an ended run says (R189). -/
theorem runObservation_some {s : State} {o : Observation} (h : runObservation s = .ok (some o)) :
    s.observationFault = none ∧ s.runEnded = true ∧
      o = { samples := s.sent, status := s.statusWord, errcmd := s.errcmdWord } := by
  unfold runObservation at h
  split at h
  · cases h
  · next hf =>
    split at h
    · next he => cases h; exact ⟨hf, he, rfl⟩
    · cases h

/-- No later edge of an ended run accepts a word, a reset edge or not (R187, R189). -/
theorem State.runEnded_acceptedWords (n : Nat) {s : State} (h : s.runEnded = true) : acceptedWords n s = [] := by
  induction n generalizing s with
  | zero => rfl
  | succ n ih =>
    have hi : s.mode = M_IDLE := s.idle_iff.1 (by simp_all [State.runEnded])
    have hall : (s.inputs.all fun p => !(p.cmdValid && !p.rst)) = true := by simp_all [State.runEnded]
    have hp : s.pins.rst = false → s.pins.cmdValid = false := by
      unfold State.pins
      cases hs : s.inputs with
      | nil => exact fun _ => rfl
      | cons p ps => simp [hs] at hall; intro hr; by_contra hv; simp_all
    have ht : (s.inputs.tail.all fun p => !(p.cmdValid && !p.rst)) = true := by
      cases hs : s.inputs with
      | nil => rfl
      | cons p ps => rw [hs, List.all_cons, Bool.and_eq_true] at hall; exact hall.2
    rw [acceptedWords]
    cases hst : step s with
    | fault f => rfl
    | refused r => rfl
    | next t =>
      have ha : acceptedWord s = none := by
        unfold acceptedWord
        split
        · next w hw => rcases edgeOf_ok hw with ⟨hc, -⟩ | ⟨-, -, -, -, hc⟩ | ⟨hr, -, -, hc⟩ <;> simp_all
        · rfl
      have hend : t.runEnded = true := by
        rcases step_next hst with ⟨-, rfl⟩ | ⟨-, -, -, hc, -⟩ | ⟨hr, -, -, hv, -⟩ | ⟨-, rfl⟩
        · simpa [State.runEnded, State.idle] using ht
        · exact absurd hi hc
        · rw [hp hr] at hv; cases hv
        · simpa [State.runEnded, State.idle, hi] using ht
      simp [ha, ih hend]

/-- The model's own runs are the runs of the host's interface. -/
theorem run_eq_core_run (n : Nat) (s : State) : run n s = Host.Core.run Sys2Proof.core n s := by
  induction n generalizing s with
  | zero => rfl
  | succ n ih =>
    refine Eq.trans ?_ (Host.Core.run.eq_2 Sys2Proof.core s n).symm
    rw [run]
    have e : Sys2Proof.core.step s = step s := rfl
    rw [e]
    cases step s with
    | next t => exact ih t
    | fault f => rfl
    | refused r => rfl

end Sys2Proof.Machine
end

