-- ==== Sys2Proof/Laws/PerInstr.lean ====
section
/-! SUPPORT. Statements about every command as syntax, one lemma per constructor. -/

namespace Sys2Proof.Laws

/-- The row of spec/opcode_table.json a command stands in: its `match` and `mask`. -/
def tableRow : Instr → Word × Word
  | .silence _ => (0x10000000#32, 0xF0000000#32)
  | .pulse _ => (0x20000000#32, 0xFFFFFFFE#32)
  | .bit _ => (0x30000000#32, 0xFFFFFFFE#32)
  | .byte _ => (0x40000000#32, 0xFFFFFF00#32)
  | .sync _ => (0x50000000#32, 0xF0000000#32)
  | .setbaud _ => (0x60000000#32, 0xFFFFFFFE#32)

end Sys2Proof.Laws

/-- The fixed bits of a command's word are those of its row of the opcode table (R71, R72). -/
def Sys2Proof.Laws.FixedBits.Statement (i : Sys2Proof.Instr) : Prop :=
  Sys2Proof.encode i &&& (Sys2Proof.Laws.tableRow i).2 = (Sys2Proof.Laws.tableRow i).1

/-- An operand in the low bits does not touch the fixed bits above it. -/
theorem Sys2Proof.Laws.fixed_bits (m mask x : Word) (hm : m &&& mask = m) (hx : x &&& mask = 0#32) :
    (m ||| x) &&& mask = m := by
  rw [BitVec.and_or_distrib_right, hm, hx, BitVec.or_zero]

/-- A 28-bit operand stays below the opcode field (R71). -/
theorem Sys2Proof.Laws.wide_operand (x : BitVec 28) : x.setWidth 32 &&& 0xF0000000#32 = 0#32 := by
  apply BitVec.eq_of_getLsbD_eq
  intro i hi
  interval_cases i <;> simp

theorem Sys2Proof.Laws.FixedBits.silence (n : BitVec 28) : FixedBits.Statement (.silence n) :=
  fixed_bits 0x10000000#32 0xF0000000#32 _ (by decide) (wide_operand n)

theorem Sys2Proof.Laws.FixedBits.pulse (f : BitVec 1) : FixedBits.Statement (.pulse f) :=
  fixed_bits 0x20000000#32 0xFFFFFFFE#32 _ (by decide) (by revert f; decide)

theorem Sys2Proof.Laws.FixedBits.bit (v : BitVec 1) : FixedBits.Statement (.bit v) :=
  fixed_bits 0x30000000#32 0xFFFFFFFE#32 _ (by decide) (by revert v; decide)

theorem Sys2Proof.Laws.FixedBits.byte (d : BitVec 8) : FixedBits.Statement (.byte d) :=
  fixed_bits 0x40000000#32 0xFFFFFF00#32 _ (by decide) (by revert d; decide +kernel)

theorem Sys2Proof.Laws.FixedBits.sync (n : BitVec 28) : FixedBits.Statement (.sync n) :=
  fixed_bits 0x50000000#32 0xF0000000#32 _ (by decide) (wide_operand n)

theorem Sys2Proof.Laws.FixedBits.setbaud (b : BitVec 1) : FixedBits.Statement (.setbaud b) :=
  fixed_bits 0x60000000#32 0xFFFFFFFE#32 _ (by decide) (by revert b; decide)
end

