-- ==== Sys2Proof/Tests/Slice0.lean ====
section
/-! SUPPORT. Tests: the assembler's range checks, decoding of words written out from 30_encoding.md R71 and R72, single
steps against the vectors of 95_test_vectors.md section 2, and one witness for every statement that has hypotheses. -/

namespace Sys2Proof.Tests
open Sys2Proof Sys2Proof.Machine

/-! Helpers. -/

/-- `FNV` of 95_test_vectors.md: the FNV-1a 32-bit hash of a sample sequence. -/
def fnv (ss : List Sample) : Nat := ss.foldl (fun h s => ((h ^^^ s.toNat) * 0x01000193) % 4294967296) 0x811C9DC5

/-- A step ended in a next state of which `p` holds. -/
def nextWith (o : Host.Outcome State Fault Refusal) (p : State → Bool) : Bool :=
  match o with
  | .next t => p t
  | .fault _ => false
  | .refused _ => false

theorem nextWith_exists {o : Host.Outcome State Fault Refusal} {p : State → Bool} (h : nextWith o p = true) :
    ∃ t, o = .next t ∧ p t = true := by
  cases o with
  | next t => exact ⟨t, rfl, h⟩
  | fault f => cases h
  | refused r => cases h

/-- The run has ended and can be observed. -/
def endsObserved (s : State) : Bool :=
  match runObservation s with
  | .ok (some _) => true
  | .ok none => false
  | .error _ => false

theorem endsObserved_exists {s : State} (h : endsObserved s = true) : ∃ o, runObservation s = .ok (some o) := by
  unfold endsObserved at h
  split at h
  · next o ho => exact ⟨o, ho⟩
  · cases h
  · cases h

/-- The input levels of a reset edge. -/
def rstPins : Pins := { rst := true, cmdValid := true, cmdData := 0x40000041#32, smpReady := true }

/-- A reset block at a baud selection, idle, with the levels the host will drive. -/
def idleBlock (b : BitVec 1) (ps : List Pins) : State := { State.reset with baudSel := b, inputs := ps }

/-- A block in `M_SILENCE` with `n` samples left. -/
def silentBlock (n : BitVec 28) (ps : List Pins) : State := { State.reset with mode := 1#2, silLeft := n, inputs := ps }

/-- A 2400 baud block in `M_TONE` inside a one bit. -/
def toneBlock (k : BitVec 6) (p : BitVec 1) (m : BitVec 29) (ps : List Pins) : State :=
  { State.reset with baudSel := 1#1, mode := 2#2, shift := 1#11, curF := 1#1, pulsesLeft := p, bitsLeft := m, k := k,
                     inputs := ps }

/-- A block that recorded a rejection, idle. -/
def errorBlock (ps : List Pins) : State :=
  { State.reset with err := 1#1, errCode := 2#2, errCmd := 0x20000002#32, inputs := ps }

/-! WellFormed: every range check of R81 refuses the first operand outside its range and takes the last inside. -/

theorem test_wf_pulse : AsmLine.wellFormed (.pulse 1800) = false ∧ AsmLine.wellFormed (.pulse 2400) = true := by decide
theorem test_wf_bit : AsmLine.wellFormed (.bit 2) = false ∧ AsmLine.wellFormed (.bit 1) = true := by decide
theorem test_wf_byte : AsmLine.wellFormed (.byte 256) = false ∧ AsmLine.wellFormed (.byte 255) = true := by decide
theorem test_wf_setbaud : AsmLine.wellFormed (.setbaud 300) = false ∧ AsmLine.wellFormed (.setbaud 1200) = true := by
  decide
theorem test_wf_word :
    AsmLine.wellFormed (.rawWord 4294967296) = false ∧ AsmLine.wellFormed (.rawWord 4294967295) = true := by decide
theorem test_wf_bytes : AsmLine.wellFormed (.bytes [0, 256]) = false ∧ AsmLine.wellFormed (.bytes [0, 255]) = true := by
  decide

/-! Decoding: words written bit by bit from the tables of R71 and R72, `OP` first. -/

theorem test_decode_silence : decode 0b0001_0000000000001010100011000000#32 = .ok (.silence 43200#28) := rfl
theorem test_decode_pulse : decode 0b0010_0000000000000000000000000001#32 = .ok (.pulse 1#1) := rfl
theorem test_decode_bit : decode 0b0011_0000000000000000000000000001#32 = .ok (.bit 1#1) := rfl
theorem test_decode_byte : decode 0b0100_0000000000000000000011010000#32 = .ok (.byte 0xD0#8) := rfl
theorem test_decode_sync : decode 0b0101_1000000000000000000000000001#32 = .ok (.sync 0x8000001#28) := rfl
theorem test_decode_setbaud : decode 0b0110_0000000000000000000000000001#32 = .ok (.setbaud 1#1) := rfl
theorem test_decode_illegal : decode 0b1111_1111111111111111111111111111#32 = .error .illegalOpcode := rfl
theorem test_decode_reserved : decode 0b0100_0000000000000000000100000000#32 = .error .reservedBits := rfl
theorem test_decode_table_word : decodeTableWord 32 0x20000000 = some (.pulse 0#1) ∧
    decodeTableWord 32 0x40000100 = none := ⟨rfl, rfl⟩

/-- A word on a byte-wide bus, least significant byte first (R52). -/
theorem test_bytes_of_word : bytesOfWord 0x1000A8C0#32 = [0xC0#8, 0xA8#8, 0x00#8, 0x10#8] := by decide

/-! One step per command, from the vectors of section 2: the word is offered and the samples it leaves pending hash to
the spec's value. -/

theorem test_silence_3 : nextWith (step (idleBlock 0 [Pins.offer 0x10000003#32]))
    (fun t => t.pending == [128#8, 128#8, 128#8] && fnv t.pending == 0x56195437) = true := by decide +kernel
theorem test_silence_0 : nextWith (step (idleBlock 1 [Pins.offer 0x10000000#32])) (fun t => t == idleBlock 1 []) = true := by
  decide +kernel
theorem test_pulse_1200 : nextWith (step (idleBlock 0 [Pins.offer 0x20000000#32]))
    (fun t => t.pending.length == 36 && fnv t.pending == 0x69B3EF33) = true := by decide +kernel
theorem test_pulse_2400 : nextWith (step (idleBlock 1 [Pins.offer 0x20000001#32]))
    (fun t => t.pending.length == 9 && fnv t.pending == 0xBA0FBBFF) = true := by decide +kernel
theorem test_bit_0 : nextWith (step (idleBlock 1 [Pins.offer 0x30000000#32]))
    (fun t => t.pending.length == 18 && fnv t.pending == 0xD6482C7D) = true := by decide +kernel
theorem test_bit_1 : nextWith (step (idleBlock 0 [Pins.offer 0x30000001#32]))
    (fun t => t.pending.length == 36 && fnv t.pending == 0x85712335) = true := by decide +kernel
theorem test_byte_a5 : nextWith (step (idleBlock 0 [Pins.offer 0x400000A5#32]))
    (fun t => t.pending.length == 396 && fnv t.pending == 0xE960A1B3) = true := by decide +kernel
theorem test_byte_d0 : nextWith (step (idleBlock 1 [Pins.offer 0x400000D0#32]))
    (fun t => t.pending.length == 198 && fnv t.pending == 0xAE445475) = true := by decide +kernel
theorem test_sync_10 : nextWith (step (idleBlock 0 [Pins.offer 0x5000000A#32]))
    (fun t => t.pending.length == 360 && fnv t.pending == 0x2E0149A5) = true := by decide +kernel
theorem test_sync_2400 : nextWith (step (idleBlock 1 [Pins.offer 0x5000000A#32]))
    (fun t => t.pending.length == 360 && fnv t.pending == 0x49E7BDC5) = true := by decide +kernel
theorem test_setbaud_2400 : nextWith (step (idleBlock 0 [Pins.offer 0x60000001#32]))
    (fun t => t.statusWord == 0x00000011#32 && t.pending == []) = true := by decide +kernel
theorem test_setbaud_1200 : nextWith (step (idleBlock 1 [Pins.offer 0x60000000#32]))
    (fun t => t.statusWord == 0x00000001#32 && t.pending == []) = true := by decide +kernel

/-! Rejections (section 2.9), the register trace of section 2.5, and the assembler's text. -/

theorem test_reject_illegal : nextWith (step (idleBlock 0 [Pins.offer 0xFFFFFFFF#32]))
    (fun t => t.statusWord == 0x00000007#32 && t.errcmdWord == 0xFFFFFFFF#32 && t.cmdReady false) = true := by
  decide +kernel
theorem test_reject_reserved : nextWith (step (idleBlock 0 [Pins.offer 0x60000003#32]))
    (fun t => t.statusWord == 0x0000000B#32 && t.errcmdWord == 0x60000003#32 && t.cmdReady false) = true := by
  decide +kernel
theorem test_first_rejection_kept : nextWith (step (errorBlock [Pins.offer 0x00000000#32]))
    (fun t => t.statusWord == 0x0000000B#32 && t.errcmdWord == 0x20000002#32) = true := by decide +kernel
/-- The 9th sample of `BIT 1` at 2400 baud is 46 and starts the second pulse. -/
theorem test_trace_ninth_sample : nextWith (step (toneBlock 8 1 0 [Pins.take]))
    (fun t => t.sent == [46#8] && t.k == 0#6 && t.pulsesLeft == 0#1 && !t.idle) = true := by decide +kernel
/-- The 18th sample of `BIT 1` at 2400 baud ends the command. -/
theorem test_trace_last_sample : nextWith (step (toneBlock 8 0 0 [Pins.take]))
    (fun t => t.sent == [46#8] && t.idle && t.pending == []) = true := by decide +kernel
theorem test_readLine : readLine ['B', 'Y', 'T', 'E', ' ', '0', 'x', '4', '1', ' ', ';', ' ', 'A'] =
    some [.byte 0x41] := by decide +kernel
/-- A quoted quote mark, and a quoted `;` that starts no comment (log 20). -/
theorem test_readLine_quotes :
    readLine (['B', 'Y', 'T', 'E', ' '] ++ [squote, squote, squote] ++ [' ', ';', 'x']) = some [.byte 39] ∧
    readLine (['B', 'Y', 'T', 'E', 'S', ' '] ++ [squote, squote, squote, ',', squote, ';', squote, ',', squote, dquote,
      squote]) = some [.bytes [39, 59, 34]] := by decide +kernel
theorem test_assemble_split : assemble [.silence 268435456, .bit 1] =
    some [0x1FFFFFFF#32, 0x10000001#32, 0x30000001#32] := by decide +kernel

/-! Witnesses: concrete states and operands that meet the hypotheses of each statement, clause by clause, at the
bounds of their ranges. The comment before each names the statement. -/

/-- EncodeOfDecode. -/
theorem witness_EncodeOfDecode : ∃ i, decode 0x40000041#32 = .ok i := ⟨.byte 0x41#8, rfl⟩

/-- DecoderChecksOpcodeThenReservedBits: the first and last word of each clause. -/
theorem witness_DecoderChecks :
    0x10000000 / 2 ^ 28 = 1 ∧ (0x1FFFFFFF#32).toNat / 2 ^ 28 = 1 ∧ (0x20000001#32).toNat / 2 ^ 28 = 2 ∧
    (0x2FFFFFFF#32).toNat / 2 ^ 28 = 2 ∧ (0x30000001#32).toNat / 2 ^ 28 = 3 ∧ (0x3FFFFFFF#32).toNat / 2 ^ 28 = 3 ∧
    (0x400000FF#32).toNat / 2 ^ 28 = 4 ∧ (0x40000100#32).toNat / 2 ^ 28 = 4 ∧ (0x50000000#32).toNat / 2 ^ 28 = 5 ∧
    (0x5FFFFFFF#32).toNat / 2 ^ 28 = 5 ∧ (0x60000001#32).toNat / 2 ^ 28 = 6 ∧ (0x6FFFFFFF#32).toNat / 2 ^ 28 = 6 ∧
    (0x0FFFFFFF#32).toNat / 2 ^ 28 = 0 ∧ 7 ≤ (0x70000000#32).toNat / 2 ^ 28 := by decide

/-- WordBytesLeastSignificantFirst: byte 3 is one of the four, and five bytes are no word. -/
theorem witness_WordBytes : 3 < 4 ∧ ([1#8, 2#8, 3#8, 4#8, 5#8] : List Byte).length ≠ 4 ∧
    ([1#8, 2#8, 3#8] : List Byte).length ≠ 4 := by decide

/-- StepRunsAcceptedCommand, AcceptanceOnlyWhenIdle (its second and third clause), and the fetch of log 2. -/
theorem witness_StepRuns : ∃ (s : State) (i : Instr), s.Live ∧ s.resetDone = true ∧ s.idle = true ∧
    s.pins.rst = false ∧ s.pins.cmdValid = true ∧ s.cmdReady s.pins.rst = true ∧ decode s.pins.cmdData = .ok i ∧
    edgeOf s = .ok (.accept s.pins.cmdData) :=
  ⟨idleBlock 0 [Pins.offer 0x5FFFFFFF#32], .sync 0xFFFFFFF#28, by decide, rfl, rfl, rfl, rfl, rfl, rfl, rfl⟩

/-- PlacedWordRunsAtNextEdge. -/
theorem witness_PlacedWord : ∃ (s : State) (i : Instr), s.resetDone = true ∧ s.idle = true ∧
    decodeTableWord 32 0x1FFFFFFF = some i := ⟨State.reset, .silence 0xFFFFFFF#28, rfl, rfl, rfl⟩

/-- AcceptanceOnlyWhenIdle, third clause: a ready block is offered a word that is rejected. -/
theorem witness_Acceptance_rejected : ∃ (s : State) (c : Cause), s.Live ∧ s.cmdReady s.pins.rst = true ∧
    s.pins.cmdValid = true ∧ decode s.pins.cmdData = .error c :=
  ⟨idleBlock 1 [Pins.offer 0x70000000#32], .illegalOpcode, by decide, rfl, rfl, rfl⟩

/-- ResetFirstAndTransferExcludesAcceptance, first clause (a busy block that is also offered a word and a transfer),
ResetEdgeGivesResetValues, OutputsWhileReset (its second and third clause), ErrorReportIsSticky (its last clause). -/
theorem witness_Reset : ∃ s t : State, s.pins.rst = true ∧ s.idle = false ∧ s.pins.cmdValid = true ∧
    s.pins.smpReady = true ∧ step s = .next t :=
  ⟨toneBlock 3 1 5 [rstPins], State.reset.setInputs [], rfl, rfl, rfl, rfl, rfl⟩

/-- ResetFirstAndTransferExcludesAcceptance, the other clauses: a ready block, an accepting edge, a transfer edge. -/
theorem witness_Events : (∃ (s : State) (rst : Bool), s.cmdReady rst = true) ∧
    (∃ (s : State) (w : Word), edgeOf s = .ok (.accept w)) ∧ (∃ s : State, edgeOf s = .ok .transfer) :=
  ⟨⟨State.reset, false, rfl⟩, ⟨idleBlock 0 [Pins.offer 0#32], 0#32, rfl⟩, ⟨silentBlock 1 [Pins.take], rfl⟩⟩

/-- TransferTakesFirstPendingSample: the last sample of a silence and a sample inside a tone. -/
theorem witness_Transfer :
    ((silentBlock 1 [Pins.take]).Live ∧ (silentBlock 1 [Pins.take]).idle = false ∧
      (silentBlock 1 [Pins.take]).pins.rst = false ∧ (silentBlock 1 [Pins.take]).pins.smpReady = true) ∧
    ((toneBlock 0 1 536870909 [Pins.take]).Live ∧ (toneBlock 0 1 536870909 [Pins.take]).idle = false ∧
      (toneBlock 0 1 536870909 [Pins.take]).pins.rst = false ∧
      (toneBlock 0 1 536870909 [Pins.take]).pins.smpReady = true) :=
  ⟨⟨by decide, rfl, rfl, rfl⟩, by decide, rfl, rfl, rfl⟩

/-- StalledSampleIsHeld. -/
theorem witness_Stalled : (toneBlock 8 0 0 []).Live ∧ (toneBlock 8 0 0 []).idle = false ∧
    (toneBlock 8 0 0 []).pins.rst = false ∧ (toneBlock 8 0 0 []).pins.smpReady = false := by decide

/-- IdleBlockHolds: with `smp_ready` high and low. -/
theorem witness_IdleHolds : ((idleBlock 1 [Pins.take]).Live ∧ (idleBlock 1 [Pins.take]).idle = true ∧
      (idleBlock 1 [Pins.take]).pins.rst = false ∧ (idleBlock 1 [Pins.take]).pins.cmdValid = false) ∧
    (State.reset.Live ∧ State.reset.idle = true ∧ State.reset.pins.rst = false ∧ State.reset.pins.cmdValid = false) :=
  ⟨⟨by decide, rfl, rfl, rfl⟩, by decide, rfl, rfl, rfl⟩

/-- HoldingResetChangesNothingMore: `rst` falls after one edge, or is held. -/
theorem witness_HoldingReset :
    (∃ s t : State, s.pins.rst = true ∧ step s = .next t ∧ t.pins.rst = false) ∧
    (∃ s t : State, s.pins.rst = true ∧ step s = .next t ∧ t.pins.rst = true) :=
  ⟨⟨toneBlock 3 1 5 [rstPins], State.reset.setInputs [], rfl, rfl, rfl⟩,
   ⟨toneBlock 3 1 5 [rstPins, rstPins], State.reset.setInputs [rstPins], rfl, rfl, rfl⟩⟩

/-- OutputsWhileReset, first clause: a busy block with an error recorded. -/
theorem witness_OutputsWhileReset : ∃ s : State, s.resetDone = true ∧ s.mode ≠ 3#2 ∧ s.errCode ≠ 3#2 ∧ s.idle = false ∧
    s.err = 1#1 := ⟨{ errorBlock [] with mode := 1#2, silLeft := 1#28 }, by decide⟩

/-- NoObservationBeforeFirstReset: an edge with a handshake input high, either one, and a reset edge. -/
theorem witness_NoObservation :
    (∃ s : State, s.resetDone = false ∧ s.pins.rst = false ∧ s.pins.cmdValid = true ∧ s.pins.smpReady = false) ∧
    (∃ s : State, s.resetDone = false ∧ s.pins.rst = false ∧ s.pins.cmdValid = false ∧ s.pins.smpReady = true) ∧
    (∃ s : State, s.resetDone = false ∧ s.pins.rst = true) :=
  ⟨⟨(idleBlock 0 [Pins.offer 0x40000041#32]).setResetDone false, by decide⟩,
   ⟨(idleBlock 0 [Pins.take]).setResetDone false, by decide⟩,
   ⟨(idleBlock 0 [rstPins]).setResetDone false, by decide⟩⟩

/-- OnlyRate43200IsBuilt. -/
theorem witness_OnlyRate : (44100 : Nat) ≠ 43200 ∧ (43201 : Nat) ≠ 43200 := by decide

/-- IdleExactlyWhenNothingPending, PortsShowFirstPendingSample, LiveBlockNeverStops, EveryStepKeepsInv: an idle block and
busy ones are live, and steps. -/
theorem witness_Live : State.reset.Live ∧ (silentBlock 268435455 []).Live ∧ (toneBlock 8 1 536870909 [Pins.take]).Live ∧
    (errorBlock []).Live :=
  ⟨by decide, by decide, by decide, by decide⟩

/-- EveryStepKeepsInv: a transfer that starts the next bit, and an acceptance. -/
theorem witness_EveryStep : (∃ s t : State, s.Inv ∧ step s = .next t ∧ t.bitsLeft.toNat = 536870908) ∧
    (∃ s t : State, s.Inv ∧ step s = .next t ∧ t.mode = 2#2) := by
  constructor
  · obtain ⟨t, ht, hb⟩ := nextWith_exists (o := step (toneBlock 8 0 536870909 [Pins.take]))
      (p := fun t => t.bitsLeft.toNat == 536870908) (by decide +kernel)
    exact ⟨_, t, by decide, ht, by simpa using hb⟩
  · exact ⟨idleBlock 0 [Pins.offer 0x30000001#32], _, by decide, rfl, rfl⟩

/-- SampleStepRefinesPending: the states of each branch of R38. -/
theorem witness_SampleStep : ((silentBlock 1 []).Live ∧ (silentBlock 1 []).idle = false) ∧
    ((silentBlock 2 []).Live ∧ (silentBlock 2 []).idle = false) ∧
    ((toneBlock 7 1 10 []).Live ∧ (toneBlock 7 1 10 []).idle = false) ∧
    ((toneBlock 8 1 10 []).Live ∧ (toneBlock 8 1 10 []).idle = false) ∧
    ((toneBlock 8 0 10 []).Live ∧ (toneBlock 8 0 10 []).idle = false) ∧
    ((toneBlock 8 0 0 []).Live ∧ (toneBlock 8 0 0 []).idle = false) :=
  ⟨⟨by decide, rfl⟩, ⟨by decide, rfl⟩, ⟨by decide, rfl⟩, ⟨by decide, rfl⟩, ⟨by decide, rfl⟩, by decide, rfl⟩

/-- LoadedCommandPendsItsSamples. -/
theorem witness_LoadedCommand : (idleBlock 1 []).idle = true := rfl

/-- DrainTransfersExactlyPending: `PULSE 2400` at 2400 baud, nine samples. -/
theorem witness_Drain : ∃ (s : State) (ps : List Pins), s.Live ∧ s.pending.length = 9 ∧
    s.inputs = List.replicate s.pending.length Pins.take ++ ps :=
  ⟨toneBlock 0 0 0 (List.replicate 9 Pins.take ++ [rstPins]), [rstPins], by decide, by decide +kernel, by decide +kernel⟩

/-- The levels of a run from reset: `SETBAUD 2400`, a rejected word, a stall, `PULSE 2400`, its nine samples. -/
def shortRun : List Pins :=
  [Pins.offer 0x60000001#32, Pins.offer 0x20000002#32, Pins.offer 0x20000001#32, Pins.quiet] ++
    List.replicate 9 Pins.take

/-- StreamIsConcatenationOfCommands (both clauses) and ObservationIsFunctionOfAcceptedWords with a rejection: a reset
edge, then a run that accepts three words and ends idle. -/
theorem witness_Stream : ∃ (n : Nat) (s₀ s t : State) (o : Observation), s₀.pins.rst = true ∧ step s₀ = .next s ∧
    s.Live ∧ s.noReset n = true ∧ run n s = .next t ∧ t.idle = true ∧ runObservation t = .ok (some o) ∧
    (acceptedWords n s).length = 3 := by
  obtain ⟨t, ht, hp⟩ := nextWith_exists (o := run 13 (State.reset.setInputs shortRun))
    (p := fun t => t.idle && endsObserved t) (by decide +kernel)
  rw [Bool.and_eq_true] at hp
  obtain ⟨hi, ho⟩ := hp
  obtain ⟨o, ho⟩ := endsObserved_exists ho
  exact ⟨13, toneBlock 3 1 5 (rstPins :: shortRun), _, t, o, rfl, rfl, by decide, by decide, ht, hi, ho, by decide +kernel⟩

/-- A run has ended at an idle block although the host will reset it later, a word offered under `rst` included (R189). -/
theorem test_ended_before_reset : (idleBlock 1 [Pins.take, rstPins]).runEnded = true ∧
    (idleBlock 1 [rstPins, Pins.offer 0#32]).runEnded = false ∧ (silentBlock 1 []).runEnded = false := by decide

/-- ObservationIsFunctionOfAcceptedWords without a rejection, and ErrorReportIsFirstRejection with none. -/
theorem witness_Observation_clean : ∃ (n : Nat) (s₀ s t : State) (o : Observation), s₀.pins.rst = true ∧
    step s₀ = .next s ∧ s.Live ∧ s.err = 0#1 ∧ s.noReset n = true ∧ run n s = .next t ∧
    runObservation t = .ok (some o) ∧
    firstRejected (acceptedWords n s) = none := by
  obtain ⟨t, ht, hp⟩ := nextWith_exists (o := run 1 (State.reset.setInputs [Pins.offer 0x60000001#32]))
    (p := fun t => endsObserved t) (by decide +kernel)
  obtain ⟨o, ho⟩ := endsObserved_exists hp
  exact ⟨1, toneBlock 3 1 5 [rstPins, Pins.offer 0x60000001#32], _, t, o, rfl, rfl, by decide, rfl, by decide, ht, ho, rfl⟩

/-- ErrorReportIsFirstRejection with a rejection. -/
theorem witness_ErrorReport : ∃ (n : Nat) (s t : State) (c : Cause) (w : Word), s.Live ∧ s.err = 0#1 ∧
    s.noReset n = true ∧ run n s = .next t ∧ firstRejected (acceptedWords n s) = some (c, w) :=
  ⟨2, idleBlock 0 [Pins.offer 0x30000002#32, Pins.offer 0#32], _, .reservedBits, 0x30000002#32, by decide, rfl,
    by decide, rfl, rfl⟩

/-- ErrorReportIsSticky: a block with a recorded error, a run without a reset. -/
theorem witness_Sticky : ∃ (n : Nat) (s : State), 0 < n ∧ s.Live ∧ s.err = 1#1 ∧ s.noReset n = true :=
  ⟨2, errorBlock [Pins.offer 0x60000001#32, Pins.offer 0#32], by decide⟩

/-- RejectionAction: the first rejection and a later one. -/
theorem witness_Rejection :
    (∃ (s : State) (w : Word) (c : Cause), s.Live ∧ edgeOf s = .ok (.accept w) ∧ decode w = .error c ∧ s.err = 0#1) ∧
    (∃ (s : State) (w : Word) (c : Cause), s.Live ∧ edgeOf s = .ok (.accept w) ∧ decode w = .error c ∧ s.err = 1#1) :=
  ⟨⟨idleBlock 0 [Pins.offer 0x70000000#32], 0x70000000#32, .illegalOpcode, by decide, rfl, rfl, rfl⟩,
   ⟨errorBlock [Pins.offer 0x40000100#32], 0x40000100#32, .reservedBits, by decide, rfl, rfl, rfl⟩⟩

/-- A reset, idle block is offered `w`: the premises IllegalOpcodeRejected and ReservedBitsRejected share. -/
def offered (w : Word) : Prop :=
  (idleBlock 0 [Pins.offer w]).Live ∧ (idleBlock 0 [Pins.offer w]).idle = true ∧
  (idleBlock 0 [Pins.offer w]).pins.rst = false ∧ (idleBlock 0 [Pins.offer w]).pins.cmdValid = true ∧
  (idleBlock 0 [Pins.offer w]).pins.cmdData = w

/-- IllegalOpcodeRejected: opcodes 0, 7 and 15. -/
theorem witness_Illegal : (offered 0x0FFFFFFF#32 ∧ (0x0FFFFFFF#32).toNat / 2 ^ 28 = 0) ∧
    (offered 0x70000000#32 ∧ 7 ≤ (0x70000000#32).toNat / 2 ^ 28) ∧
    (offered 0xFFFFFFFF#32 ∧ 7 ≤ (0xFFFFFFFF#32).toNat / 2 ^ 28) :=
  ⟨⟨⟨by decide, rfl, rfl, rfl, rfl⟩, by decide⟩, ⟨⟨by decide, rfl, rfl, rfl, rfl⟩, by decide⟩, ⟨by decide, rfl, rfl, rfl, rfl⟩, by decide⟩

/-- ReservedBitsRejected: the lowest and the highest reserved bit of each command that has reserved bits, and the two
that have none. -/
theorem witness_Reserved :
    (offered 0x20000002#32 ∧ (0x20000002#32).toNat / 2 ^ 28 = 2 ∧ (0x20000002#32).toNat % 2 ^ 28 / 2 ≠ 0) ∧
    (offered 0x38000001#32 ∧ (0x38000001#32).toNat / 2 ^ 28 = 3 ∧ (0x38000001#32).toNat % 2 ^ 28 / 2 ≠ 0) ∧
    (offered 0x60000002#32 ∧ (0x60000002#32).toNat / 2 ^ 28 = 6 ∧ (0x60000002#32).toNat % 2 ^ 28 / 2 ≠ 0) ∧
    (offered 0x40000100#32 ∧ (0x40000100#32).toNat / 2 ^ 28 = 4 ∧ (0x40000100#32).toNat % 2 ^ 28 / 256 ≠ 0) ∧
    (offered 0x48000000#32 ∧ (0x48000000#32).toNat / 2 ^ 28 = 4 ∧ (0x48000000#32).toNat % 2 ^ 28 / 256 ≠ 0) ∧
    (0x1FFFFFFF#32).toNat / 2 ^ 28 = 1 ∧ (0x50000000#32).toNat / 2 ^ 28 = 5 :=
  ⟨⟨⟨by decide, rfl, rfl, rfl, rfl⟩, by decide⟩, ⟨⟨by decide, rfl, rfl, rfl, rfl⟩, by decide⟩, ⟨⟨by decide, rfl, rfl, rfl, rfl⟩, by decide⟩,
    ⟨⟨by decide, rfl, rfl, rfl, rfl⟩, by decide⟩, ⟨⟨by decide, rfl, rfl, rfl, rfl⟩, by decide⟩, by decide⟩

/-- OnlySetbaudChangesBaud. -/
theorem witness_OnlySetbaud : ∃ s t : State, step s = .next t ∧ s.pins.rst = false ∧ t.baudSel ≠ s.baudSel :=
  ⟨idleBlock 0 [Pins.offer 0x60000001#32], idleBlock 1 [], rfl, rfl, by decide⟩

/-- StatusPortFields: a reset block with the reserved code, and one with the largest code that occurs. -/
theorem witness_StatusPort :
    (∃ s : State, s.resetDone = true ∧ s.mode ≠ 3#2 ∧ s.errCode = 3#2 ∧
      runObservation s = .error .errCodeReserved) ∧
    (∃ s : State, s.resetDone = true ∧ s.mode ≠ 3#2 ∧ s.errCode ≠ 3#2 ∧ s.errCode = 2#2) :=
  ⟨⟨{ errorBlock [] with errCode := 3#2 }, rfl, by decide, rfl, rfl⟩, ⟨errorBlock [], by decide⟩⟩

/-- SilenceLoadsItsCount and SyncLoadsItsOneBits: the smallest and the largest count. -/
theorem witness_Counts : 1#28 ≠ 0#28 ∧ 268435455#28 ≠ 0#28 := by decide

/-- SetbaudSelectsTheRate: its last clause, on an idle block. -/
theorem witness_Setbaud : (idleBlock 1 []).idle = true := rfl

/-- PulseIndexNeverWraps: the last sample of the longest and of the shortest pulse. -/
theorem witness_PulseIndex : 35 < 36 ∧ 8 < 9 := by decide

/-- PulseWaveforms: the last index of each of the three pulses. -/
theorem witness_PulseWaveforms : 35 < 36 ∧ 17 < 18 ∧ 8 < 9 := by decide

/-- SilenceRunsConcatenate and SyncLaws: the largest sum. -/
theorem witness_Concatenate : (268435454#28).toNat + (1#28).toNat < 2 ^ 28 := by decide

/-- FrameLayout: the start bit, the data bits' ends, the second stop bit. -/
theorem witness_FrameLayout : 0 < 11 ∧ 1 < 11 ∧ 8 < 11 ∧ 10 < 11 := by decide

/-- CommandDurations: a rejected word. -/
theorem witness_CommandDurations : ∃ c, decode 0x60000003#32 = .error c := ⟨.reservedBits, rfl⟩

/-- LargeCountsAreSplit: the smallest count that does not fit, and one whose remainder is 0. -/
theorem witness_LargeCounts : 2 ^ 28 - 1 < 268435456 ∧ 2 ^ 28 - 1 < 536870910 := by decide

/-- AssemblerWords: each range's last value inside and first value outside. -/
theorem witness_AssemblerWords : 268435455 < 2 ^ 28 ∧ 255 ≤ 255 ∧ 4294967295 < 2 ^ 32 ∧ 1201 ≠ 1200 ∧ 1201 ≠ 2400 ∧
    1 < 2 ∧ 255 < 256 ∧ 2 ^ 32 ≤ 4294967296 := by decide

end Sys2Proof.Tests
end

