-- ==== Sys2Proof/Proofs/Instantiate.lean ====
section
/-! Building the block for a sample rate (00_scope.md R6): what `instantiate` answers at the built rate and at any other. -/

namespace Sys2Proof.Machine

/-- At the built rate the block powers up with its contents as they are and no reset seen (R202; log 5). -/
theorem instantiate_sampleRate (s : State) : instantiate Config.sampleRate s = .next (s.setResetDone false) :=
  if_pos rfl

/-- Every other rate is refused, whatever the block holds (R6, D8; log 7). -/
theorem instantiate_of_ne_sampleRate {rate : Nat} (s : State) (hrate : rate ≠ Config.sampleRate) :
    instantiate rate s = .refused .sampleRate :=
  if_neg hrate

/-- Settles O18: the two branches of `instantiate`, at `Config.sampleRate` = 43200. -/
theorem onlyRate43200IsBuilt : Obligations.OnlyRate43200IsBuilt := by
  intro rate s
  constructor
  · intro hrate
    exact instantiate_of_ne_sampleRate s hrate
  · exact instantiate_sampleRate s

end Sys2Proof.Machine
end

/-! The emission registers and `PENDING` (10_state.md R30 to R38): what each operation is in each mode, and the sample
step and the loading of a command as refinements of the map of R37. -/

namespace Sys2Proof.Machine

/-! The values of `MODE` differ. -/

@[simp] theorem M_IDLE_ne_M_SILENCE : M_IDLE ≠ M_SILENCE := by decide
@[simp] theorem M_IDLE_ne_M_TONE : M_IDLE ≠ M_TONE := by decide
@[simp] theorem M_TONE_ne_M_SILENCE : M_TONE ≠ M_SILENCE := by decide

theorem State.idle_eq_false_iff (s : State) : s.idle = false ↔ s.mode ≠ M_IDLE := by simp [State.idle]

/-! The presented sample, the sample step and `PENDING` in each mode. -/

section
variable {s : State}

theorem State.pending_of_idle (hm : s.mode = M_IDLE) : s.pending = [] := by simp [State.pending, hm]

theorem State.pending_of_silence (hm : s.mode = M_SILENCE) :
    s.pending = repeatSeq s.silLeft.toNat [Config.dcBias] := by simp [State.pending, hm]

theorem State.pending_of_tone (hm : s.mode = M_TONE) : s.pending = s.tonePending := by simp [State.pending, hm]

theorem State.presented_of_silence (hm : s.mode = M_SILENCE) : s.presented = .ok Config.dcBias := by
  simp [State.presented, hm]

/-- Within a pulse the block presents the pulse's sample at `K` (R38, R106). -/
theorem State.presented_of_tone (hm : s.mode = M_TONE) (hk : s.k.toNat < s.curLen) :
    s.presented = .ok ((pulseWave s.sineTieLow s.curLen)[s.k.toNat]'(by simpa using hk)) := by
  simp [State.presented, hm, romRead_romIndex _ hk, pulseWave_getElem]

theorem State.advance_of_idle (hm : s.mode = M_IDLE) : s.advance = s := by simp [State.advance, hm]

theorem State.advance_of_silence (hm : s.mode = M_SILENCE) : s.advance = s.tickSilence := by simp [State.advance, hm]

theorem State.advance_of_tone (hm : s.mode = M_TONE) : s.advance = s.tickTone := by simp [State.advance, hm]

end

/-! The branches of the sample step (R38). -/

/-- In `M_SILENCE` the last sample ends the command, and any other counts down. -/
theorem State.tickSilence_cases (s : State) :
    (s.silLeft = 1#28 ∧ s.tickSilence = (s.setSilLeft 0#28).setMode M_IDLE) ∨
    (s.silLeft ≠ 1#28 ∧ s.tickSilence = s.setSilLeft (s.silLeft - 1#28)) := by
  unfold State.tickSilence
  split
  · next h => exact .inl ⟨by bv_omega, by rw [h]⟩
  · next h => exact .inr ⟨by bv_omega, rfl⟩

/-- In `M_TONE` a sample is followed by the next one of its pulse, by the second pulse of its bit, by the next bit, or
by nothing. -/
theorem State.tickTone_cases (s : State) (hk : s.k.toNat < s.curLen) :
    (s.k.toNat + 1 < s.curLen ∧ s.tickTone = s.setK (s.k + 1#6)) ∨
    (s.k.toNat + 1 = s.curLen ∧
      ((s.pulsesLeft = 1#1 ∧ s.tickTone = (s.setK 0#6).setPulsesLeft 0#1) ∨
       (s.pulsesLeft = 0#1 ∧ s.bitsLeft ≠ 0#29 ∧ s.tickTone = s.nextBit) ∨
       (s.pulsesLeft = 0#1 ∧ s.bitsLeft = 0#29 ∧ s.tickTone = (s.setK 0#6).setMode M_IDLE))) := by
  unfold State.tickTone
  by_cases hlast : s.k.toNat < s.curLen - 1
  · exact .inl ⟨by omega, if_pos hlast⟩
  · rw [if_neg hlast]
    refine .inr ⟨by omega, ?_⟩
    rcases bit_cases s.pulsesLeft with hp | hp
    · by_cases hb : s.bitsLeft = 0#29
      · exact .inr (.inr ⟨hp, hb, by simp [hp, hb]⟩)
      · exact .inr (.inl ⟨hp, hb, by simp [hp, hb]⟩)
    · exact .inl ⟨hp, if_pos hp⟩

/-- `K` counts the longest pulse without wrapping (R36). -/
theorem State.toNat_k_add_one {s : State} (hk : s.k.toNat + 1 < s.curLen) : (s.k + 1#6).toNat = s.k.toNat + 1 := by
  have hL : s.curLen ≤ 36 := (pulseLen_bounds s.baudSel s.curF).2
  bv_omega

@[simp] theorem State.setK_curLen (s : State) (n : BitVec 6) : (s.setK n).curLen = s.curLen := rfl
@[simp] theorem State.setPulsesLeft_curLen (s : State) (p : BitVec 1) : (s.setPulsesLeft p).curLen = s.curLen := rfl

/-- Every pulse has a first sample. -/
theorem State.curLen_pos (s : State) : 0 < s.curLen := by
  have := (pulseLen_bounds s.baudSel s.curF).1
  unfold State.curLen
  omega

section
variable (s : State)
@[simp] theorem State.nextBit_mode : s.nextBit.mode = s.mode := rfl
@[simp] theorem State.nextBit_k : s.nextBit.k = 0#6 := rfl
@[simp] theorem State.nextBit_shift : s.nextBit.shift = shiftNext s.shift := rfl
@[simp] theorem State.nextBit_bitsLeft : s.nextBit.bitsLeft = s.bitsLeft - 1#29 := rfl
@[simp] theorem State.nextBit_baudSel : s.nextBit.baudSel = s.baudSel := rfl
@[simp] theorem State.nextBit_sineTieLow : s.nextBit.sineTieLow = s.sineTieLow := rfl

@[simp] theorem State.nextBit_curF : s.nextBit.curF = bitv s.shift 1 := bitAt_shiftNext s.shift

/-- A new bit has a second pulse exactly when it is a 1 bit (R35). -/
theorem State.nextBit_pulsesLeft : s.nextBit.pulsesLeft = s.nextBit.curF := rfl
end

/-! The bits of a tone. -/

/-- The samples of the `n` bits that follow the current one under shift register `v`, by the last term of R37. -/
def bitsAfter (tie : Config.SineTieLow) (b : BitVec 1) (v : BitVec 11) (n : Nat) : List Sample :=
  (List.range n).flatMap fun j => bitSeq tie b (bitv v (j + 1))

@[simp] theorem bitsAfter_zero (tie : Config.SineTieLow) (b : BitVec 1) (v : BitVec 11) :
    bitsAfter tie b v 0 = [] := rfl

/-- The bits to come are the next one, and those that follow it once the register has shifted (R33). -/
theorem bitsAfter_succ (tie : Config.SineTieLow) (b : BitVec 1) (v : BitVec 11) (n : Nat) :
    bitsAfter tie b v (n + 1) = bitSeq tie b (bitv v 1) ++ bitsAfter tie b (shiftNext v) n := by
  simp [bitsAfter, List.range_succ_eq_map, List.flatMap_map, bitv_shiftNext]

/-- Under a register of ones every bit to come is a 1 (R150). -/
theorem bitsAfter_ones (tie : Config.SineTieLow) (b : BitVec 1) (n : Nat) :
    bitsAfter tie b 0x7FF#11 n = repeatSeq n (bitSeq tie b 1#1) := by
  have hbit : bitv 0x7FF#11 1 = 1#1 := by decide
  have hshift : shiftNext 0x7FF#11 = 0x7FF#11 := by decide
  induction n with
  | zero => rfl
  | succ n ih => rw [bitsAfter_succ, hbit, hshift, ih, repeatSeq_succ]

/-- A frame is its bit 0 and the ten bits after it (R140). -/
theorem frameSeq_eq_bitsAfter (tie : Config.SineTieLow) (b : BitVec 1) (v : BitVec 11) :
    frameSeq tie b v = bitSeq tie b (bitAt v 0) ++ bitsAfter tie b v 10 := by
  have hbit : ∀ j ∈ List.range 10, bitSeq tie b (bitAt v (j + 1)) = bitSeq tie b (bitv v (j + 1)) := by
    intro j hj
    have hj : j < 10 := List.mem_range.1 hj
    rw [bitv, if_pos (by omega)]
  calc frameSeq tie b v
      = bitSeq tie b (bitAt v 0) ++ (List.range 10).flatMap fun j => bitSeq tie b (bitAt v (j + 1)) := by
        simp [frameSeq, List.range_succ_eq_map]
    _ = bitSeq tie b (bitAt v 0) ++ bitsAfter tie b v 10 := by rw [List.flatMap_congr hbit, bitsAfter]

/-- A bit is one pulse at its frequency, and a 1 bit a second one (R130, R131). -/
theorem bitSeq_eq_pulses (tie : Config.SineTieLow) (b v : BitVec 1) :
    bitSeq tie b v = pulseWave tie (pulseLen b v) ++ if v = 1#1 then pulseWave tie (pulseLen b v) else [] := by
  rcases bit_cases v with rfl | rfl <;> simp [bitSeq]

theorem State.tonePending_eq (s : State) :
    s.tonePending = (pulseWave s.sineTieLow s.curLen).drop s.k.toNat
      ++ (if s.pulsesLeft = 1#1 then pulseWave s.sineTieLow s.curLen else [])
      ++ bitsAfter s.sineTieLow s.baudSel s.shift s.bitsLeft.toNat := rfl

/-- At the first sample of a bit the whole bit is pending, and the bits after it. -/
theorem State.tonePending_of_bitStart {s : State} (hk : s.k = 0#6) (hp : s.pulsesLeft = s.curF) :
    s.tonePending = bitSeq s.sineTieLow s.baudSel s.curF
      ++ bitsAfter s.sineTieLow s.baudSel s.shift s.bitsLeft.toNat := by
  rw [State.tonePending_eq, hk, hp, bitSeq_eq_pulses]
  rfl

/-! The sample step removes the first pending sample. -/

/-- What the sample step of R38 leaves pending in `M_TONE`: all of R37's sequence but the sample at `K`. -/
theorem State.tickTone_pending {s : State} (hm : s.mode = M_TONE) (hk : s.k.toNat < s.curLen) :
    s.tickTone.pending = (pulseWave s.sineTieLow s.curLen).drop (s.k.toNat + 1)
      ++ (if s.pulsesLeft = 1#1 then pulseWave s.sineTieLow s.curLen else [])
      ++ bitsAfter s.sineTieLow s.baudSel s.shift s.bitsLeft.toNat := by
  rcases s.tickTone_cases hk with ⟨hnext, ht⟩ | ⟨hlast, hc⟩
  · rw [ht, State.pending_of_tone (by simpa using hm), State.tonePending_eq, State.setK_k,
      State.toNat_k_add_one hnext]
    rfl
  · have hdrop : (pulseWave s.sineTieLow s.curLen).drop (s.k.toNat + 1) = [] := by
      rw [hlast, List.drop_eq_nil_iff, pulseWave_length]
    rw [hdrop]
    rcases hc with ⟨hp, ht⟩ | ⟨hp, hb, ht⟩ | ⟨hp, hb, ht⟩
    · rw [ht, State.pending_of_tone (by simpa using hm), State.tonePending_eq]
      simp [hp]
    · have hbits : s.bitsLeft.toNat = (s.bitsLeft - 1#29).toNat + 1 := by bv_omega
      rw [ht, State.pending_of_tone (by simpa using hm),
        State.tonePending_of_bitStart s.nextBit_k s.nextBit_pulsesLeft, hbits, bitsAfter_succ]
      simp [hp]
    · rw [ht, State.pending_of_idle (by simp)]
      simp [hp, hb]

theorem State.pending_eq_cons_of_silence {s : State} (hm : s.mode = M_SILENCE) (hn : s.silLeft ≠ 0#28) :
    s.pending = Config.dcBias :: s.advance.pending := by
  rw [State.pending_of_silence hm, State.advance_of_silence hm]
  rcases s.tickSilence_cases with ⟨h1, ht⟩ | ⟨h1, ht⟩
  · rw [ht, State.pending_of_idle (by simp), h1]
    rfl
  · have hcount : s.silLeft.toNat = (s.silLeft - 1#28).toNat + 1 := by bv_omega
    rw [ht, State.pending_of_silence (by simpa using hm), hcount, repeatSeq_succ]
    simp

theorem State.pending_eq_cons_of_tone {s : State} (hm : s.mode = M_TONE) (hk : s.k.toNat < s.curLen) :
    s.pending = (pulseWave s.sineTieLow s.curLen)[s.k.toNat]'(by simpa using hk) :: s.advance.pending := by
  rw [State.pending_of_tone hm, State.advance_of_tone hm, State.tickTone_pending hm hk, State.tonePending_eq,
    List.drop_eq_getElem_cons (by simpa using hk), List.cons_append, List.cons_append]

/-- What the invariant says of a busy block, by its mode. -/
theorem State.EmissionOk.busy_cases {s : State} (he : s.EmissionOk) (hi : s.mode ≠ M_IDLE) :
    (s.mode = M_SILENCE ∧ s.silLeft ≠ 0#28) ∨
    (s.mode = M_TONE ∧ s.k.toNat < s.curLen ∧ (s.pulsesLeft = 1#1 → s.curF = 1#1) ∧
      s.bitsLeft.toNat ≤ 536870909) := by
  obtain ⟨h3, hsilence, htone⟩ := he
  rcases mode_cases s.mode with hm | hm | hm | hm
  · exact absurd hm hi
  · exact .inl ⟨hm, hsilence hm⟩
  · exact .inr ⟨hm, htone hm⟩
  · exact absurd hm h3

theorem State.Live.emissionOk {s : State} (hl : s.Live) : s.EmissionOk := (hl.2 hl.1).2

/-- Settles O20: in `M_SILENCE` the count goes down by one, in `M_TONE` the four branches of R38 each drop the sample
at `K`. -/
theorem sampleStepRefinesPending : Obligations.SampleStepRefinesPending := by
  intro s hl hi
  rcases State.EmissionOk.busy_cases (State.Live.emissionOk hl) (s.idle_eq_false_iff.1 hi) with
    ⟨hm, hn⟩ | ⟨hm, hk, -, -⟩
  · exact ⟨_, State.presented_of_silence hm, State.pending_eq_cons_of_silence hm hn⟩
  · exact ⟨_, State.presented_of_tone hm hk, State.pending_eq_cons_of_tone hm hk⟩

/-- Settles O19: an idle block has nothing pending, and a busy one has the sample it presents. -/
theorem idleExactlyWhenNothingPending : Obligations.IdleExactlyWhenNothingPending := by
  intro s hl
  constructor
  · intro hi
    exact State.pending_of_idle (s.idle_iff.1 hi)
  · intro hp
    by_contra hi
    obtain ⟨x, -, hx⟩ := sampleStepRefinesPending s hl (by simpa using hi)
    rw [hp] at hx
    cases hx

/-! Loading a command. -/

theorem State.loadSilence_pending {s : State} (hm : s.mode = M_IDLE) (n : BitVec 28) :
    (s.loadSilence n).pending = repeatSeq n.toNat [Config.dcBias] := by
  unfold State.loadSilence
  split
  · next hn => rw [State.pending_of_idle hm, hn]; rfl
  · rw [State.pending_of_silence (by simp)]; simp

theorem State.loadPulse_pending (s : State) (f : BitVec 1) :
    (s.loadPulse f).pending = pulseWave s.sineTieLow (pulseLen s.baudSel f) := by
  rw [State.pending_of_tone rfl, State.tonePending_eq]
  simp [State.loadPulse, State.curLen]

theorem State.loadBits_pending (s : State) (v : BitVec 11) (f : BitVec 1) (m : BitVec 29) :
    (s.loadBits v f m).pending =
      bitSeq s.sineTieLow s.baudSel f ++ bitsAfter s.sineTieLow s.baudSel v m.toNat := by
  rw [State.pending_of_tone rfl]
  exact State.tonePending_of_bitStart rfl rfl

/-- `BITS_LEFT` holds `M - 1` for every bit count `M` a sync tone can have (R32). -/
theorem State.loadOnes_pending {s : State} (hm : s.mode = M_IDLE) {m : Nat} (hle : m ≤ 536870910) :
    (s.loadOnes m).pending = repeatSeq m (bitSeq s.sineTieLow s.baudSel 1#1) := by
  unfold State.loadOnes
  cases m with
  | zero => exact State.pending_of_idle hm
  | succ m =>
    have hbits : (BitVec.ofNat 29 m).toNat = m := by
      rw [BitVec.toNat_ofNat]
      omega
    rw [if_neg (by omega), State.loadBits_pending, Nat.add_sub_cancel, hbits, bitsAfter_ones, repeatSeq_succ]

/-- Settles O21: one case per command. -/
theorem loadedCommandPendsItsSamples : Obligations.LoadedCommandPendsItsSamples := by
  intro i s hi
  have hm : s.mode = M_IDLE := s.idle_iff.1 hi
  cases i with
  | silence n => exact ⟨_, rfl, State.loadSilence_pending hm n⟩
  | pulse f => exact ⟨_, rfl, s.loadPulse_pending f⟩
  | bit v => exact ⟨_, rfl, by simp [State.loadBits_pending]⟩
  | byte d =>
    refine ⟨_, rfl, ?_⟩
    rw [State.loadBits_pending, commandSamples_byte, frameSeq_eq_bitsAfter, bitAt_frameOf_zero]
    rfl
  | sync n => exact ⟨_, rfl, State.loadOnes_pending hm (syncCount_le s.baudSel n)⟩
  | setbaud b => exact ⟨_, rfl, State.pending_of_idle (by simpa using hm)⟩

end Sys2Proof.Machine

/-! What every step keeps (10_state.md R25 to R36), and the drain of a busy block (R23, R55). -/

namespace Sys2Proof.Machine

/-! The inputs of the invariant. -/

theorem State.ErrorOk.congr {s t : State} (hs : s.ErrorOk) (herr : t.err = s.err) (hcode : t.errCode = s.errCode)
    (hcmd : t.errCmd = s.errCmd) : t.ErrorOk := by
  rw [State.ErrorOk, herr, hcode, hcmd]
  exact hs

theorem State.emissionOk_of_idle {s : State} (hm : s.mode = M_IDLE) : s.EmissionOk := by
  refine ⟨?_, ?_, ?_⟩ <;> rw [hm]
  · decide
  · exact fun h => absurd h (by decide)
  · exact fun h => absurd h (by decide)

theorem State.emissionOk_of_silence {s : State} (hm : s.mode = M_SILENCE) (hn : s.silLeft ≠ 0#28) :
    s.EmissionOk := by
  refine ⟨?_, fun _ => hn, ?_⟩ <;> rw [hm]
  · decide
  · exact fun h => absurd h (by decide)

theorem State.emissionOk_of_tone {s : State} (hm : s.mode = M_TONE) (hk : s.k.toNat < s.curLen)
    (hp : s.pulsesLeft = 1#1 → s.curF = 1#1) (hb : s.bitsLeft.toNat ≤ 536870909) : s.EmissionOk := by
  refine ⟨?_, ?_, fun _ => ⟨hk, hp, hb⟩⟩ <;> rw [hm]
  · decide
  · exact fun h => absurd h (by decide)

/-! The sample step. -/

theorem State.tickTone_emissionOk {s : State} (hm : s.mode = M_TONE) (hk : s.k.toNat < s.curLen)
    (hp : s.pulsesLeft = 1#1 → s.curF = 1#1) (hb : s.bitsLeft.toNat ≤ 536870909) : s.tickTone.EmissionOk := by
  rcases s.tickTone_cases hk with ⟨hnext, ht⟩ | ⟨-, ⟨-, ht⟩ | ⟨-, hb0, ht⟩ | ⟨-, -, ht⟩⟩ <;> rw [ht]
  · refine State.emissionOk_of_tone (by simpa using hm) ?_ (by simpa using hp) (by simpa using hb)
    rw [State.setK_k, State.toNat_k_add_one hnext]
    exact hnext
  · exact State.emissionOk_of_tone (by simpa using hm) (State.curLen_pos _) (fun h => absurd h (by simp))
      (by simpa using hb)
  · refine State.emissionOk_of_tone (by simpa using hm) (State.curLen_pos _)
      (fun h => s.nextBit_pulsesLeft.symm.trans h) ?_
    rw [State.nextBit_bitsLeft]
    bv_omega
  · exact State.emissionOk_of_idle (by simp)

theorem State.advance_emissionOk {s : State} (he : s.EmissionOk) : s.advance.EmissionOk := by
  by_cases hi : s.mode = M_IDLE
  · rwa [State.advance_of_idle hi]
  rcases State.EmissionOk.busy_cases he hi with ⟨hm, hn⟩ | ⟨hm, hk, hp, hb⟩
  · rw [State.advance_of_silence hm]
    rcases s.tickSilence_cases with ⟨-, ht⟩ | ⟨h1, ht⟩ <;> rw [ht]
    · exact State.emissionOk_of_idle (by simp)
    · refine State.emissionOk_of_silence (by simpa using hm) ?_
      rw [State.setSilLeft_silLeft]
      bv_omega
  · rw [State.advance_of_tone hm]
    exact State.tickTone_emissionOk hm hk hp hb

theorem State.advance_errorOk {s : State} (hs : s.ErrorOk) : s.advance.ErrorOk := by
  obtain ⟨-, herr, hcode, hcmd, -⟩ := s.advance_frame
  exact State.ErrorOk.congr hs herr hcode hcmd

/-! The acceptance of a word. -/

/-- An accepted word is performed or rejected (R185). -/
theorem accept_next {w : Word} {s t : State} (h : accept w s = .next t) :
    (∃ i, decode w = .ok i ∧ exec i s = .next t) ∨
    (∃ c, decode w = .error c ∧ t = if s.err = 0#1 then s.setError c.code w else s) := by
  unfold accept at h
  cases hd : decode w with
  | ok i => rw [hd] at h; exact .inl ⟨i, rfl, h⟩
  | error c => rw [hd] at h; cases h; exact .inr ⟨c, rfl, rfl⟩

/-- The error report and the model's own fields after a command: `exec_next`, for the state it answers. -/
theorem exec_frame {i : Instr} {s t : State} (h : exec i s = .next t) :
    t.err = s.err ∧ t.errCode = s.errCode ∧ t.errCmd = s.errCmd ∧ t.sineTieLow = s.sineTieLow ∧
      t.resetDone = s.resetDone ∧ t.inputs = s.inputs ∧ t.sent = s.sent := by
  obtain ⟨u, hu, hframe⟩ := exec_next i s
  rw [hu] at h
  cases h
  exact hframe

/-- The first bit of a run has a second pulse only if it is a 1 bit (R35), whatever follows it (R32). -/
theorem State.loadBits_emissionOk (s : State) (v : BitVec 11) (f : BitVec 1) {m : BitVec 29}
    (hm : m.toNat ≤ 536870909) : (s.loadBits v f m).EmissionOk :=
  State.emissionOk_of_tone rfl (State.curLen_pos _) id hm

theorem State.loadPulse_emissionOk (s : State) (f : BitVec 1) : (s.loadPulse f).EmissionOk :=
  State.emissionOk_of_tone rfl (State.curLen_pos _) (fun h => absurd h (by simp [State.loadPulse]))
    (by simp [State.loadPulse])

theorem State.loadOnes_emissionOk {s : State} (hi : s.mode = M_IDLE) {m : Nat} (hle : m ≤ 536870910) :
    (s.loadOnes m).EmissionOk := by
  unfold State.loadOnes
  split
  · exact State.emissionOk_of_idle hi
  · refine s.loadBits_emissionOk _ _ ?_
    rw [BitVec.toNat_ofNat]
    omega

theorem exec_emissionOk {i : Instr} {s t : State} (hi : s.mode = M_IDLE) (h : exec i s = .next t) :
    t.EmissionOk := by
  cases i <;> cases h
  case silence n =>
    unfold State.loadSilence
    split
    · exact State.emissionOk_of_idle hi
    · next hn => exact State.emissionOk_of_silence rfl hn
  case pulse f => exact s.loadPulse_emissionOk f
  case bit v => exact s.loadBits_emissionOk _ _ (by decide)
  case byte d => exact s.loadBits_emissionOk _ _ (by decide)
  case sync n => exact State.loadOnes_emissionOk hi (syncCount_le s.baudSel n)
  case setbaud b => exact State.emissionOk_of_idle hi

/-- Both causes have a code that says an error is recorded, and neither has the reserved one (R26, R171). -/
theorem Cause.code_ne (c : Cause) : c.code ≠ 0#2 ∧ c.code ≠ 3#2 := by cases c <;> decide

theorem State.setError_errorOk (s : State) (c : Cause) (w : Word) : (s.setError c.code w).ErrorOk := by
  obtain ⟨hnone, hreserved⟩ := Cause.code_ne c
  exact ⟨by simp [hnone], hreserved, fun h => absurd h (by simp)⟩

theorem accept_keeps_ok {w : Word} {s t : State} (hi : s.mode = M_IDLE) (hs : s.ErrorOk)
    (h : accept w s = .next t) : t.ErrorOk ∧ t.EmissionOk := by
  rcases accept_next h with ⟨i, -, hx⟩ | ⟨c, -, rfl⟩
  · obtain ⟨herr, hcode, hcmd, -⟩ := exec_frame hx
    exact ⟨State.ErrorOk.congr hs herr hcode hcmd, exec_emissionOk hi hx⟩
  · split
    · exact ⟨s.setError_errorOk c w, State.emissionOk_of_idle hi⟩
    · exact ⟨hs, State.emissionOk_of_idle hi⟩

/-! The step. -/

/-- A block is live from its first reset edge on (R41, R200). -/
theorem State.applyReset_live (s : State) : s.applyReset.Live :=
  ⟨rfl, fun _ => ⟨State.ErrorOk.congr (s := State.reset) (by decide) rfl rfl rfl, State.emissionOk_of_idle rfl⟩⟩

/-- Settles O24: the state after reset is the one any reset edge gives. -/
theorem resetStateHasInv : Obligations.ResetStateHasInv := State.reset.applyReset_live

/-- Settles O23: one case per event of an edge. -/
theorem everyStepKeepsInv : Obligations.EveryStepKeepsInv := by
  intro s t hs h
  rcases step_next h with ⟨-, rfl⟩ | ⟨-, hd, -, -, -, x, -, rfl⟩ | ⟨-, hd, hm, -, ha⟩ | ⟨-, rfl⟩
  case inl => exact s.popInput.applyReset_live.2
  case inr.inl =>
    obtain ⟨herror, hemission⟩ := hs hd
    exact fun _ =>
      ⟨State.advance_errorOk (s := s.popInput) herror, State.advance_emissionOk (s := s.popInput) hemission⟩
  case inr.inr.inl =>
    obtain ⟨herror, -⟩ := hs hd
    exact fun _ => accept_keeps_ok (s := s.popInput) hm herror ha
  case inr.inr.inr => exact hs

/-! The drain. -/

/-- At an edge where the host takes a sample a live busy block transfers the first of `PENDING` and stays live. -/
theorem step_take {s : State} {ps : List Pins} (hl : s.Live) (hi : s.idle = false) (hin : s.inputs = Pins.take :: ps) :
    ∃ (t : State) (x : Sample), step s = .next t ∧ t.Live ∧ s.pending = x :: t.pending ∧ t.sent = s.sent ++ [x] ∧
      t.inputs = ps ∧ t.baudSel = s.baudSel ∧ t.err = s.err ∧ t.errCode = s.errCode ∧ t.errCmd = s.errCmd := by
  obtain ⟨x, hx, hpending⟩ := sampleStepRefinesPending s.popInput hl hi
  obtain ⟨hbaud, herr, hcode, hcmd, -, hdone, hinputs, hsent⟩ := s.popInput.advance_frame
  have hpins : s.pins = Pins.take := by rw [State.pins, hin]; rfl
  have hedge : edgeOf s = .ok .transfer :=
    edgeOf_transfer hl.1 (State.Live.emissionOk hl).1 hi (by rw [hpins]; rfl) (by rw [hpins]; rfl)
  have hstep : step s = .next (s.popInput.advance.pushSent x) := by
    simp only [step, hedge, transfer, hx]
  have htl : (s.popInput.advance.pushSent x).Live := ⟨hdone.trans hl.1, everyStepKeepsInv _ _ hl.2 hstep⟩
  refine ⟨_, x, hstep, htl, hpending, ?_, ?_, hbaud, herr, hcode, hcmd⟩
  · rw [State.pushSent_sent, hsent, State.popInput_sent]
  · rw [State.pushSent_inputs, hinputs, State.popInput_inputs, hin, List.tail_cons]

theorem run_succ_of_step {n : Nat} {s t : State} (h : step s = .next t) : run (n + 1) s = run n t := by
  rw [run, h]

/-- Settles O26: by induction on the samples pending, each edge taking the first of them. -/
theorem drainTransfersExactlyPending : Obligations.DrainTransfersExactlyPending := by
  intro s ps hl hin
  generalize hp : s.pending = xs at hin ⊢
  induction xs generalizing s with
  | nil => exact ⟨s, rfl, (idleExactlyWhenNothingPending s hl).2 hp, by simp, hin, rfl, rfl, rfl, rfl⟩
  | cons x xs ih =>
    have hi : s.idle = false := by
      rw [s.idle_eq_false_iff]
      intro hm
      rw [State.pending_of_idle hm] at hp
      cases hp
    obtain ⟨t, y, hstep, htl, hty, hsent, hinputs, hbaud, herr, hcode, hcmd⟩ := step_take hl hi hin
    obtain ⟨rfl, hxs⟩ : y = x ∧ t.pending = xs := by simpa [hp] using hty.symm
    obtain ⟨u, hrun, hidle, husent, huinputs, hubaud, huerr, hucode, hucmd⟩ := ih t htl hxs hinputs
    refine ⟨u, (run_succ_of_step hstep).trans hrun, hidle, ?_, huinputs, hubaud.trans hbaud, huerr.trans herr,
      hucode.trans hcode, hucmd.trans hcmd⟩
    rw [husent, hsent, List.append_assoc, List.singleton_append]

end Sys2Proof.Machine

/-! The baud selection, the error report and the status word along steps and runs (10_state.md R24 to R29). -/

namespace Sys2Proof.Machine

/-! The baud selection. -/

/-- Of the commands only `SETBAUD` writes `BAUD_SEL`, with its operand (R160). -/
theorem exec_baudSel {i : Instr} {s t : State} (h : exec i s = .next t) :
    t.baudSel = s.baudSel ∨ ∃ b, i = .setbaud b ∧ t.baudSel = b := by
  cases i <;> cases h
  case silence n =>
    left
    unfold State.loadSilence
    split <;> rfl
  case pulse f => exact .inl rfl
  case bit v => exact .inl rfl
  case byte d => exact .inl rfl
  case sync n =>
    left
    unfold State.loadOnes
    split <;> rfl
  case setbaud b => exact .inr ⟨b, rfl, rfl⟩

/-- Settles O34: of the events of an edge without reset only the acceptance of a `SETBAUD` writes `BAUD_SEL`. -/
theorem onlySetbaudChangesBaud : Obligations.OnlySetbaudChangesBaud := by
  intro s t h hr hne
  rcases step_next h with ⟨hreset, -⟩ | ⟨-, -, -, -, -, x, -, rfl⟩ | ⟨-, hd, hm, hv, ha⟩ | ⟨-, rfl⟩
  case inl => rw [hr] at hreset; cases hreset
  case inr.inl => exact absurd s.popInput.advance_frame.1 hne
  case inr.inr.inl =>
    rcases accept_next ha with ⟨i, hi, hx⟩ | ⟨c, -, rfl⟩
    · rcases exec_baudSel hx with hsame | ⟨b, rfl, hb⟩
      · exact absurd hsame hne
      · exact ⟨_, b, edgeOf_accept hd (s.idle_iff.2 hm) hr hv, hi, hb⟩
    · refine absurd ?_ hne
      split <;> rfl
  case inr.inr.inr => exact absurd rfl hne

/-! The error report. -/

/-- The error report a block shows when `r` is the first rejection since reset, if there is one (R25, R26, R27). -/
def State.Reports (s : State) : Option (Cause × Word) → Prop
  | none => s.err = 0#1 ∧ s.errCode = 0#2 ∧ s.errCmd = 0#32
  | some (c, w) => s.err = 1#1 ∧ s.errCode = c.code ∧ s.errCmd = w

theorem State.Reports.congr {s t : State} {r : Option (Cause × Word)} (hs : s.Reports r) (herr : t.err = s.err)
    (hcode : t.errCode = s.errCode) (hcmd : t.errCmd = s.errCmd) : t.Reports r := by
  cases r <;> simpa only [State.Reports, herr, hcode, hcmd] using hs

/-- A block with the invariant and no error reports no rejection. -/
theorem State.ErrorOk.reports_none {s : State} (hs : s.ErrorOk) (herr : s.err = 0#1) : s.Reports none :=
  ⟨herr, hs.1.1 herr, hs.2.2 herr⟩

/-- The rejection action records a rejection where none was reported, and only there (R173, R175). -/
theorem State.Reports.reject {s : State} {r : Option (Cause × Word)} (hs : s.Reports r) (c : Cause) (w : Word) :
    (if s.err = 0#1 then s.setError c.code w else s).Reports (r.or (some (c, w))) := by
  cases r with
  | none =>
    rw [if_pos hs.1]
    exact ⟨rfl, rfl, rfl⟩
  | some _ =>
    rw [if_neg (by rw [hs.1]; decide)]
    exact hs

@[simp] theorem firstRejected_nil : firstRejected [] = none := rfl

theorem firstRejected_cons_ok {w : Word} {i : Instr} (h : decode w = .ok i) (ws : List Word) :
    firstRejected (w :: ws) = firstRejected ws := by simp [firstRejected, h]

theorem firstRejected_cons_error {w : Word} {c : Cause} (h : decode w = .error c) (ws : List Word) :
    firstRejected (w :: ws) = some (c, w) := by simp [firstRejected, h]

/-- The first rejection of two runs of words is that of the first run, if it has one. -/
theorem firstRejected_append (us ws : List Word) :
    firstRejected (us ++ ws) = (firstRejected us).or (firstRejected ws) := by
  induction us with
  | nil => rfl
  | cons u us ih =>
    rw [List.cons_append]
    cases hd : decode u with
    | ok i => rw [firstRejected_cons_ok hd, firstRejected_cons_ok hd, ih]
    | error c => rw [firstRejected_cons_error hd, firstRejected_cons_error hd, Option.some_or]

theorem accept_reports {w : Word} {s t : State} {r : Option (Cause × Word)} (hs : s.Reports r)
    (h : accept w s = .next t) : t.Reports (r.or (firstRejected [w])) := by
  rcases accept_next h with ⟨i, hi, hx⟩ | ⟨c, hc, rfl⟩
  · obtain ⟨herr, hcode, hcmd, -⟩ := exec_frame hx
    rw [firstRejected_cons_ok hi, firstRejected_nil, Option.or_none]
    exact hs.congr herr hcode hcmd
  · rw [firstRejected_cons_error hc]
    exact hs.reject c w

theorem acceptedWord_eq_some {s : State} {w : Word} : acceptedWord s = some w ↔ edgeOf s = .ok (.accept w) := by
  unfold acceptedWord
  constructor
  · intro h
    split at h
    · next hw => cases h; exact hw
    · cases h
  · intro h
    rw [h]

theorem step_of_acceptedWord {s : State} {w : Word} (h : acceptedWord s = some w) :
    step s = accept w s.popInput := by
  simp only [step, acceptedWord_eq_some.1 h]

/-- An edge without reset that accepts no word keeps the error report (R176). -/
theorem step_error_of_no_word {s t : State} (hr : s.pins.rst = false) (h : step s = .next t)
    (hw : acceptedWord s = none) : t.err = s.err ∧ t.errCode = s.errCode ∧ t.errCmd = s.errCmd := by
  rcases step_next h with ⟨hreset, -⟩ | ⟨-, -, -, -, -, x, -, rfl⟩ | ⟨-, hd, hm, hv, -⟩ | ⟨-, rfl⟩
  case inl => rw [hr] at hreset; cases hreset
  case inr.inl =>
    obtain ⟨-, herr, hcode, hcmd, -⟩ := s.popInput.advance_frame
    exact ⟨herr, hcode, hcmd⟩
  case inr.inr.inl =>
    rw [acceptedWord_eq_some.2 (edgeOf_accept hd (s.idle_iff.2 hm) hr hv)] at hw
    cases hw
  case inr.inr.inr => exact ⟨rfl, rfl, rfl⟩

/-- An edge without reset adds to the error report the rejection of the word it accepts. -/
theorem step_reports {s t : State} {r : Option (Cause × Word)} (hs : s.Reports r) (hr : s.pins.rst = false)
    (h : step s = .next t) : t.Reports (r.or (firstRejected (acceptedWord s).toList)) := by
  cases hw : acceptedWord s with
  | none =>
    obtain ⟨herr, hcode, hcmd⟩ := step_error_of_no_word hr h hw
    rw [Option.toList_none, firstRejected_nil, Option.or_none]
    exact hs.congr herr hcode hcmd
  | some w =>
    rw [step_of_acceptedWord hw] at h
    exact accept_reports (s := s.popInput) hs h

/-! Runs. -/

/-- Every step uses up one edge's input levels. -/
theorem step_inputs {s t : State} (h : step s = .next t) : t.inputs = s.inputs.tail := by
  rcases step_next h with ⟨-, rfl⟩ | ⟨-, -, -, -, -, x, -, rfl⟩ | ⟨-, -, -, -, ha⟩ | ⟨-, rfl⟩
  case inl => rfl
  case inr.inl =>
    obtain ⟨-, -, -, -, -, -, hinputs, -⟩ := s.popInput.advance_frame
    exact hinputs
  case inr.inr.inl =>
    rcases accept_next ha with ⟨i, -, hx⟩ | ⟨c, -, rfl⟩
    · obtain ⟨-, -, -, -, -, hinputs, -⟩ := exec_frame hx
      exact hinputs
    · split <;> rfl
  case inr.inr.inr => rfl

/-- A run of `n + 1` edges is one step and a run of `n`. -/
theorem run_succ_next {n : Nat} {s t : State} (h : run (n + 1) s = .next t) :
    ∃ u, step s = .next u ∧ run n u = .next t := by
  cases hu : step s with
  | next u => exact ⟨u, rfl, (run_succ_of_step hu).symm.trans h⟩
  | fault f => rw [run, hu] at h; cases h
  | refused f => rw [run, hu] at h; cases h

theorem acceptedWords_succ_of_step {n : Nat} {s u : State} (h : step s = .next u) :
    acceptedWords (n + 1) s = (acceptedWord s).toList ++ acceptedWords n u := by
  simp only [acceptedWords, h]

theorem State.noReset_succ {n : Nat} {s u : State} (hn : s.noReset (n + 1) = true) (h : step s = .next u) :
    s.pins.rst = false ∧ u.noReset n = true := by
  rw [State.noReset] at hn
  rw [State.pins, State.noReset, step_inputs h]
  cases hin : s.inputs with
  | nil => exact ⟨rfl, by simp⟩
  | cons p ps => simpa [hin] using hn

/-- Along a run without a reset the error report gains the first rejection among the words accepted (R175). -/
theorem run_reports {n : Nat} {s t : State} {r : Option (Cause × Word)} (hs : s.Reports r)
    (hn : s.noReset n = true) (h : run n s = .next t) : t.Reports (r.or (firstRejected (acceptedWords n s))) := by
  induction n generalizing s r with
  | zero =>
    cases h
    rwa [acceptedWords, firstRejected_nil, Option.or_none]
  | succ n ih =>
    obtain ⟨u, hstep, hrun⟩ := run_succ_next h
    obtain ⟨hr, hnu⟩ := State.noReset_succ hn hstep
    rw [acceptedWords_succ_of_step hstep, firstRejected_append, ← Option.or_assoc]
    exact ih (step_reports hs hr hstep) hnu hrun

/-- Settles O28: the run starts with no rejection reported. -/
theorem errorReportIsFirstRejection : Obligations.ErrorReportIsFirstRejection := by
  intro n s t hl herr hn h
  have hs : s.Reports none := State.ErrorOk.reports_none (hl.2 hl.1).1 herr
  have ht : t.Reports (firstRejected (acceptedWords n s)) := by simpa using run_reports hs hn h
  cases hw : firstRejected (acceptedWords n s) with
  | none => rw [hw] at ht; exact ht
  | some r => rw [hw] at ht; exact ht

/-! The status word. -/

theorem toNat_append_eq_add {m n : Nat} (x : BitVec m) (y : BitVec n) :
    (x ++ y).toNat = 2 ^ n * x.toNat + y.toNat := by
  rw [BitVec.toNat_append, ← Nat.shiftLeft_add_eq_or_of_lt y.isLt, Nat.shiftLeft_eq, Nat.mul_comm]

theorem State.statusWord_toNat (s : State) :
    s.statusWord.toNat = s.idle.toNat + 2 * s.err.toNat + 4 * s.errCode.toNat + 16 * s.baudSel.toNat := by
  rw [State.statusWord, toNat_append_eq_add, toNat_append_eq_add, toNat_append_eq_add, toNat_append_eq_add,
    BitVec.toNat_ofBool]
  simp
  omega

theorem State.observationFault_of_errCode {s : State} (hd : s.resetDone = true) (hm : s.mode ≠ 3#2)
    (hc : s.errCode = 3#2) : s.observationFault = some .errCodeReserved := by
  simp [State.observationFault, hd, hm, hc]

theorem observe_of_fault {s : State} {f : Fault} (h : s.observationFault = some f) (rst : Bool) :
    observe s rst = .error f := by
  simp only [observe, h]

theorem runObservation_of_fault {s : State} {f : Fault} (h : s.observationFault = some f) :
    runObservation s = .error f := by
  simp only [runObservation, h]

theorem runObservation_of_no_fault {s : State} (h : s.observationFault = none) : ∃ o, runObservation s = .ok o := by
  simp only [runObservation, h]
  exact ⟨_, rfl⟩

/-- Settles O35: the fields of the concatenation as a number, and the one check of every observation. -/
theorem statusPortFields : Obligations.StatusPortFields := by
  refine ⟨fun s => ⟨s.statusWord_toNat, rfl⟩, fun s hd hm => ⟨fun hc => ?_, fun hc => ?_⟩⟩
  · have hf : s.observationFault = some .errCodeReserved := State.observationFault_of_errCode hd hm hc
    exact ⟨observe_of_fault hf, runObservation_of_fault hf⟩
  · exact runObservation_of_no_fault (s.observationFault_eq_none.2 ⟨hd, hm, hc⟩)

end Sys2Proof.Machine

/-! A command word on a narrower bus (20_memory.md R52, 30_encoding.md R79). -/

namespace Sys2Proof

/-- A byte field of a value, in arithmetic (R11). -/
theorem bitField_byte_eq_ofNat {n : Nat} (v : BitVec n) (i : Nat) :
    bitField v (8 * i) 8 = BitVec.ofNat 8 (v.toNat / 256 ^ i) := by
  have hpow : 256 ^ i = 2 ^ (8 * i) := by rw [Nat.pow_mul]
  rw [bitField, BitVec.extractLsb', Nat.shiftRight_eq_div_pow, hpow]

/-- Two neighbouring fields put together are one field (R11). -/
theorem bitField_append {n : Nat} (v : BitVec n) (lo len len' : Nat) :
    bitField v (lo + len) len' ++ bitField v lo len = bitField v lo (len' + len) :=
  BitVec.extractLsb'_append_extractLsb'_eq_extractLsb' rfl

theorem bitField_zero_self {n : Nat} (v : BitVec n) : bitField v 0 n = v := BitVec.extractLsb'_eq_self

@[simp] theorem bytesOfWord_length (w : Word) : (bytesOfWord w).length = 4 := rfl

/-- Byte `i` of the four, in arithmetic on the word's value (R52). -/
theorem bytesOfWord_getElem? (w : Word) {i : Nat} (hi : i < 4) :
    (bytesOfWord w)[i]? = some (BitVec.ofNat 8 (w.toNat / 256 ^ i)) := by
  rw [← bitField_byte_eq_ofNat]
  interval_cases i <;> rfl

/-- The four bytes give the word back: from the top, each is put on the fields below it. -/
theorem wordOfBytes_bytesOfWord (w : Word) : wordOfBytes (bytesOfWord w) = some w := by
  have h1 : bitField w 24 8 ++ bitField w 16 8 = bitField w 16 16 := bitField_append w 16 8 8
  have h2 : bitField w 16 16 ++ bitField w 8 8 = bitField w 8 24 := bitField_append w 8 8 16
  have h3 : bitField w 8 24 ++ bitField w 0 8 = bitField w 0 32 := bitField_append w 0 8 24
  rw [bytesOfWord, wordOfBytes, h1, h2, h3, bitField_zero_self]

@[simp] theorem decodeBytes_bytesOfWord (w : Word) : decodeBytes (bytesOfWord w) = some (decode w) := by
  rw [decodeBytes, wordOfBytes_bytesOfWord, Option.map_some]

/-- Bytes are a word only if there are four of them (R79). -/
theorem length_of_wordOfBytes {bs : List Byte} {w : Word} (h : wordOfBytes bs = some w) : bs.length = 4 := by
  unfold wordOfBytes at h
  split at h
  · rfl
  · cases h

theorem decodeBytes_of_length_ne {bs : List Byte} (h : bs.length ≠ 4) : decodeBytes bs = none := by
  rw [decodeBytes, Option.map_eq_none_iff, Option.eq_none_iff_forall_ne_some]
  exact fun _ hw => h (length_of_wordOfBytes hw)

/-- What the decoder reads from a table's word is the decoding of that word. -/
theorem decode_tableWord_of_decodeTableWord {nbits w : Nat} {i : Instr} (h : decodeTableWord nbits w = some i) :
    decode (tableWord nbits w) = .ok i := by
  rw [decodeTableWord, decodeBytes_bytesOfWord] at h
  cases hd : decode (tableWord nbits w) with
  | ok j => rw [hd] at h; cases h; rfl
  | error c => rw [hd] at h; cases h

/-- Settles O6: byte `i` is the field of bits 8i+7..8i, and neighbouring fields join to the word. -/
theorem wordBytesLeastSignificantFirst : Obligations.WordBytesLeastSignificantFirst :=
  ⟨fun w => ⟨bytesOfWord_length w, fun _ => bytesOfWord_getElem? w, wordOfBytes_bytesOfWord w,
    decodeBytes_bytesOfWord w⟩, fun _ => decodeBytes_of_length_ne⟩

end Sys2Proof

/-! The events of an edge without reset (20_memory.md R55, R56, R58; 60_exceptions.md R185) and the output ports. -/

namespace Sys2Proof.Machine

/-! Acceptance. -/

/-- Settles O7: the edge is an acceptance, and accepting a legal word performs its command. -/
theorem stepRunsAcceptedCommand : Obligations.StepRunsAcceptedCommand := by
  intro s i hd hi hr hv hdec
  have hedge : edgeOf s = .ok (.accept s.pins.cmdData) := edgeOf_accept hd hi hr hv
  simp only [step, hedge, accept, hdec]

section
variable (s : State) (nbits w : Nat)

@[simp] theorem State.withFetchWord_pins : (s.withFetchWord nbits w).pins = Pins.offer (tableWord nbits w) := rfl

/-- On an idle block that has been reset, placing a word only adds an input, which the next edge uses up. -/
theorem State.withFetchWord_popInput (hd : s.resetDone = true) (hi : s.idle = true) :
    (s.withFetchWord nbits w).popInput = s := by
  obtain ⟨⟩ := s
  obtain rfl := hd
  obtain rfl := (State.idle_iff _).1 hi
  rfl

end

/-- Settles O8: O7 at the block with the word placed. -/
theorem placedWordRunsAtNextEdge : Obligations.PlacedWordRunsAtNextEdge := by
  intro s nbits w i hd hi hdec
  have hrun : step (s.withFetchWord nbits w) = exec i (s.withFetchWord nbits w).popInput :=
    stepRunsAcceptedCommand _ i rfl rfl rfl rfl (decode_tableWord_of_decodeTableWord hdec)
  rw [hrun, s.withFetchWord_popInput nbits w hd hi]

/-! Transfer and stall. -/

/-- Settles O11: the sample step on the state with the edge's input levels used up. -/
theorem transferTakesFirstPendingSample : Obligations.TransferTakesFirstPendingSample := by
  intro s hl hi hr hs
  obtain ⟨x, hx, hpending⟩ := sampleStepRefinesPending s.popInput hl hi
  obtain ⟨hbaud, herr, hcode, hcmd, htie, hdone, hinputs, hsent⟩ := s.popInput.advance_frame
  have hedge : edgeOf s = .ok .transfer := edgeOf_transfer hl.1 (State.Live.emissionOk hl).1 hi hr hs
  have hstep : step s = .next (s.popInput.advance.pushSent x) := by simp only [step, hedge, transfer, hx]
  have hdone' : s.popInput.advance.resetDone = true := hdone.trans hl.1
  exact ⟨x, _, hstep, hpending, congrArg (· ++ [x]) hsent, hbaud, herr, hcode, hcmd, htie, hdone', hinputs⟩

/-- A busy block holds its state while the host does not take the sample (R58). -/
theorem edgeOf_stall {s : State} (hd : s.resetDone = true) (h3 : s.mode ≠ 3#2) (hi : s.idle = false)
    (hr : s.pins.rst = false) (hs : s.pins.smpReady = false) : edgeOf s = .ok .hold := by
  simp [edgeOf, hr, hd, h3, State.cmdReady, hi, hs]

/-- The ports do not depend on what the host will drive at later edges. -/
@[simp] theorem observe_popInput (s : State) (rst : Bool) : observe s.popInput rst = observe s rst := rfl

/-- Settles O12: the edge is a hold, and the input levels it uses up are behind no port. -/
theorem stalledSampleIsHeld : Obligations.StalledSampleIsHeld := by
  intro s hl hi hr hs
  have hedge : edgeOf s = .ok .hold := edgeOf_stall hl.1 (State.Live.emissionOk hl).1 hi hr hs
  exact ⟨by simp only [step, hedge], observe_popInput s false, s.popInput_pending⟩

/-! The output ports. -/

/-- Outside reset a live block shows the first sample of `PENDING`, and 128 where there is none (R55). -/
theorem State.Live.smpData {s : State} (hl : s.Live) : s.smpData false = .ok (s.pending.headD 128#8) := by
  cases hi : s.idle with
  | true =>
    rw [State.pending_of_idle (s.idle_iff.1 hi)]
    simp [State.smpData, State.smpValid, hi, Config.dcBias]
  | false =>
    obtain ⟨x, hx, hpending⟩ := sampleStepRefinesPending s hl hi
    simp [State.smpData, State.smpValid, hi, hx, hpending]

/-- Outside reset `smp_valid` of a live block says that samples are pending (R23, R55). -/
theorem State.Live.smpValid_iff {s : State} (hl : s.Live) : s.smpValid false = true ↔ s.pending ≠ [] := by
  rw [ne_eq, ← idleExactlyWhenNothingPending s hl]
  simp [State.smpValid]

/-- Outside reset exactly one of the two handshakes is open (R55, R185). -/
theorem State.cmdReady_eq_not_smpValid (s : State) : s.cmdReady false = !s.smpValid false := by
  simp [State.cmdReady, State.smpValid]

theorem observe_of_no_fault {s : State} {rst : Bool} {x : Sample} (hf : s.observationFault = none)
    (hx : s.smpData rst = .ok x) :
    observe s rst = .ok { cmdReady := s.cmdReady rst, smpValid := s.smpValid rst, smpData := x,
                          status := s.statusWord, errcmd := s.errcmdWord, irq := s.irq } := by
  simp only [observe, hf, hx]

/-- Settles O22: no observation of a live block is a fault, and each port is read off. -/
theorem portsShowFirstPendingSample : Obligations.PortsShowFirstPendingSample := by
  intro s hl
  have hobserve := observe_of_no_fault (State.Live.observationFault hl) (State.Live.smpData hl)
  exact ⟨_, hobserve, State.Live.smpValid_iff hl, s.cmdReady_eq_not_smpValid, rfl, rfl, rfl, by simp [State.irq]⟩

end Sys2Proof.Machine

/-! The ordering model (20_memory.md R61): the stream along steps and runs without a reset. -/

namespace Sys2Proof.Machine

/-! Words. -/

theorem baudAfter_setbaud {w : Word} {b : BitVec 1} (b₀ : BitVec 1) (h : decode w = .ok (.setbaud b)) :
    baudAfter b₀ w = b := by simp [baudAfter, h]

theorem baudAfter_of_not_setbaud {w : Word} (b₀ : BitVec 1) (h : ∀ b, decode w ≠ .ok (.setbaud b)) :
    baudAfter b₀ w = b₀ := by
  unfold baudAfter
  split
  · next b hb => exact absurd hb (h b)
  · rfl

/-- The second of two runs of words starts at the baud selection the first one leaves. -/
theorem streamOf_append (tie : Config.SineTieLow) (b : BitVec 1) (us ws : List Word) :
    streamOf tie b (us ++ ws) = streamOf tie b us ++ streamOf tie (us.foldl baudAfter b) ws := by
  induction us generalizing b with
  | nil => rfl
  | cons u us ih => simp [ih]

/-! Acceptance. -/

theorem accept_baudSel {w : Word} {s t : State} (h : accept w s = .next t) : t.baudSel = baudAfter s.baudSel w := by
  rcases accept_next h with ⟨i, hi, hx⟩ | ⟨c, hc, rfl⟩
  · by_cases hset : ∃ b, i = .setbaud b
    · obtain ⟨b, rfl⟩ := hset
      cases hx
      exact (baudAfter_setbaud s.baudSel hi).symm
    · rw [baudAfter_of_not_setbaud s.baudSel (by simpa [hi] using hset)]
      rcases exec_baudSel hx with hsame | ⟨b, rfl, -⟩
      · exact hsame
      · exact absurd ⟨b, rfl⟩ hset
  · rw [baudAfter_of_not_setbaud s.baudSel (by simp [hc])]
    split <;> rfl

/-- An accepted word, performed or rejected, leaves exactly its samples pending. -/
theorem accept_pending {w : Word} {s t : State} (hm : s.mode = M_IDLE) (h : accept w s = .next t) :
    t.pending = wordSamples s.sineTieLow s.baudSel w := by
  rcases accept_next h with ⟨i, hi, hx⟩ | ⟨c, hc, rfl⟩
  · obtain ⟨u, hu, hpending⟩ := loadedCommandPendsItsSamples i s (s.idle_iff.2 hm)
    rw [hu] at hx
    cases hx
    rw [hpending, wordSamples_ok hi]
  · rw [wordSamples_error hc]
    split <;> exact State.pending_of_idle hm

/-- Acceptance transfers nothing, and leaves the model's own fields alone. -/
theorem accept_frame {w : Word} {s t : State} (h : accept w s = .next t) :
    t.sineTieLow = s.sineTieLow ∧ t.resetDone = s.resetDone ∧ t.sent = s.sent := by
  rcases accept_next h with ⟨i, -, hx⟩ | ⟨c, -, rfl⟩
  · obtain ⟨-, -, -, htie, hdone, -, hsent⟩ := exec_frame hx
    exact ⟨htie, hdone, hsent⟩
  · split <;> exact ⟨rfl, rfl, rfl⟩

theorem idle_of_acceptedWord {s : State} {w : Word} (h : acceptedWord s = some w) : s.mode = M_IDLE := by
  rcases edgeOf_ok (acceptedWord_eq_some.1 h) with
    ⟨hc, -⟩ | ⟨-, -, -, -, hc⟩ | ⟨-, -, -, ⟨hc, -⟩ | ⟨-, hm, -⟩ | ⟨hc, -⟩ | ⟨hc, -⟩⟩
  case inr.inr.inr.inl => exact hm
  all_goals cases hc

/-! Steps. -/

/-- An edge without reset that accepts no word transfers the presented sample or only uses up its input levels. -/
theorem step_of_no_word {s t : State} (hr : s.pins.rst = false) (h : step s = .next t) (hw : acceptedWord s = none) :
    (s.mode ≠ M_IDLE ∧ ∃ x, s.presented = .ok x ∧ t = s.popInput.advance.pushSent x) ∨ t = s.popInput := by
  rcases step_next h with ⟨hreset, -⟩ | ⟨-, -, -, hm, -, htransfer⟩ | ⟨-, hd, hm, hv, -⟩ | ⟨-, rfl⟩
  case inl => rw [hr] at hreset; cases hreset
  case inr.inl => exact .inl ⟨hm, htransfer⟩
  case inr.inr.inl =>
    rw [acceptedWord_eq_some.2 (edgeOf_accept hd (s.idle_iff.2 hm) hr hv)] at hw
    cases hw
  case inr.inr.inr => exact .inr rfl

/-- Every step keeps a live block live (R170). -/
theorem step_live {s t : State} (hl : s.Live) (h : step s = .next t) : t.Live := by
  refine ⟨?_, everyStepKeepsInv s t hl.2 h⟩
  rcases step_next h with ⟨-, rfl⟩ | ⟨-, -, -, -, -, x, -, rfl⟩ | ⟨-, -, -, -, ha⟩ | ⟨-, rfl⟩
  case inl => rfl
  case inr.inl =>
    obtain ⟨-, -, -, -, -, hdone, -⟩ := s.popInput.advance_frame
    exact hdone.trans hl.1
  case inr.inr.inl =>
    obtain ⟨-, hdone, -⟩ := accept_frame ha
    exact hdone.trans hl.1
  case inr.inr.inr => exact hl.1

/-- The baud selection after an edge without reset is that after the word it accepts, if it accepts one (R24). -/
theorem step_baudSel {s t : State} (hr : s.pins.rst = false) (h : step s = .next t) :
    t.baudSel = (acceptedWord s).toList.foldl baudAfter s.baudSel := by
  cases hw : acceptedWord s with
  | none =>
    rcases step_of_no_word hr h hw with ⟨-, x, -, rfl⟩ | rfl
    · exact s.popInput.advance_frame.1
    · rfl
  | some w =>
    rw [step_of_acceptedWord hw] at h
    exact accept_baudSel (s := s.popInput) h

/-- No step writes the build parameter (R102). -/
theorem step_sineTieLow {s t : State} (h : step s = .next t) : t.sineTieLow = s.sineTieLow := by
  rcases step_next h with ⟨-, rfl⟩ | ⟨-, -, -, -, -, x, -, rfl⟩ | ⟨-, -, -, -, ha⟩ | ⟨-, rfl⟩
  case inl => rfl
  case inr.inl =>
    obtain ⟨-, -, -, -, htie, -⟩ := s.popInput.advance_frame
    exact htie
  case inr.inr.inl => exact (accept_frame ha).1
  case inr.inr.inr => rfl

/-- A transfer moves the first pending sample into the stream, an acceptance makes the word's samples pending on an idle
block, and a hold changes neither. -/
theorem step_stream {s t : State} (hl : s.Live) (hr : s.pins.rst = false) (h : step s = .next t) :
    t.sent ++ t.pending =
      s.sent ++ s.pending ++ streamOf s.sineTieLow s.baudSel (acceptedWord s).toList := by
  cases hw : acceptedWord s with
  | none =>
    rcases step_of_no_word hr h hw with ⟨hm, x, hx, rfl⟩ | rfl
    · obtain ⟨y, hy, hpending⟩ := sampleStepRefinesPending s.popInput hl (s.idle_eq_false_iff.2 hm)
      obtain ⟨-, -, -, -, -, -, -, hsent⟩ := s.popInput.advance_frame
      obtain rfl : x = y := Except.ok.inj (hx.symm.trans hy)
      rw [State.popInput_pending] at hpending
      simp [hsent, hpending]
    · simp
  | some w =>
    have hm : s.mode = M_IDLE := idle_of_acceptedWord hw
    rw [step_of_acceptedWord hw] at h
    obtain ⟨-, -, hsent⟩ := accept_frame h
    rw [hsent, accept_pending (s := s.popInput) hm h, State.pending_of_idle hm]
    simp

/-! Runs. -/

/-- Along a run without a reset the stream and what is pending gain the samples of the words accepted (R61). -/
theorem run_stream {n : Nat} {s t : State} (hl : s.Live) (hn : s.noReset n = true) (h : run n s = .next t) :
    t.sent ++ t.pending =
      s.sent ++ s.pending ++ streamOf s.sineTieLow s.baudSel (acceptedWords n s) := by
  induction n generalizing s with
  | zero => cases h; simp [acceptedWords]
  | succ n ih =>
    obtain ⟨u, hstep, hrun⟩ := run_succ_next h
    obtain ⟨hr, hnu⟩ := State.noReset_succ hn hstep
    rw [ih (step_live hl hstep) hnu hrun, step_stream hl hr hstep, step_sineTieLow hstep, step_baudSel hr hstep,
      acceptedWords_succ_of_step hstep, streamOf_append, List.append_assoc]

theorem step_of_reset_next {s t : State} (hr : s.pins.rst = true) (h : step s = .next t) :
    t = s.popInput.applyReset := by
  rw [(step_of_reset hr).2] at h
  cases h
  rfl

/-- Settles O27: by induction on the edges; a run from a reset edge starts, and an idle block ends, with nothing
pending. -/
theorem streamIsConcatenationOfCommands : Obligations.StreamIsConcatenationOfCommands := by
  refine ⟨fun n s t hl hn h => run_stream hl hn h, fun n s₀ s t hr₀ hstep hn h hi => ?_⟩
  obtain rfl := step_of_reset_next hr₀ hstep
  have hstream := run_stream s₀.popInput.applyReset_live hn h
  rw [State.pending_of_idle (t.idle_iff.1 hi)] at hstream
  simpa using hstream

end Sys2Proof.Machine

/-! The encoding of commands (30_encoding.md R71 to R78): a word as its `OP` and `ARG`, what the decoder answers for
each opcode, decoding and encoding as inverses, and the number of words of each kind. -/

namespace Sys2Proof

/-! Fields of a word. -/

theorem bitField_eq_ofNat {n : Nat} (v : BitVec n) (lo len : Nat) :
    bitField v lo len = BitVec.ofNat len (v.toNat / 2 ^ lo) := by
  rw [bitField, BitVec.extractLsb', Nat.shiftRight_eq_div_pow]

/-- A low field, in arithmetic (R11). -/
theorem bitField_zero_eq_ofNat {n : Nat} (v : BitVec n) (len : Nat) :
    bitField v 0 len = BitVec.ofNat len (v.toNat % 2 ^ len) := by
  apply BitVec.eq_of_toNat_eq
  rw [bitField_eq_ofNat, Nat.pow_zero, Nat.div_one, BitVec.toNat_ofNat, BitVec.toNat_ofNat, Nat.mod_mod]

/-- A field is 0 exactly when nothing is left of the value's low bits above the field's start (R11). -/
theorem bitField_eq_zero_iff {n : Nat} (v : BitVec n) (lo len : Nat) :
    bitField v lo len = 0#len ↔ v.toNat % 2 ^ (lo + len) / 2 ^ lo = 0 := by
  rw [bitField_eq_ofNat, ← BitVec.toNat_inj, BitVec.toNat_ofNat, BitVec.toNat_zero, Nat.pow_add,
    Nat.mod_mul_right_div_self]

theorem append_eq_append_iff {m n : Nat} {x x' : BitVec m} {y y' : BitVec n} :
    x ++ y = x' ++ y' ↔ x = x' ∧ y = y' := by
  refine ⟨fun h => ⟨?_, ?_⟩, fun ⟨hx, hy⟩ => by rw [hx, hy]⟩
  · simpa only [BitVec.extractLsb'_append_eq_left] using congrArg (BitVec.extractLsb' n m) h
  · simpa only [BitVec.setWidth_append_eq_right] using congrArg (BitVec.setWidth n) h

/-- A field is given by two neighbouring fields within it (R11). -/
theorem bitField_eq_append_iff {n lo len len' : Nat} {v : BitVec n} {x : BitVec len'} {y : BitVec len} :
    bitField v lo (len' + len) = x ++ y ↔ bitField v (lo + len) len' = x ∧ bitField v lo len = y := by
  rw [← bitField_append, append_eq_append_iff]

theorem opField_append_argField (w : Word) : opField w ++ argField w = w :=
  (bitField_append w 0 28 4).trans (bitField_zero_self w)

theorem opField_eq_iff {w : Word} {o : BitVec 4} : opField w = o ↔ w.toNat / 2 ^ 28 = o.toNat := by
  have hlt : w.toNat / 2 ^ 28 < 2 ^ 4 := Nat.div_lt_of_lt_mul w.isLt
  rw [opField, bitField_eq_ofNat, ← BitVec.toNat_inj, BitVec.toNat_ofNat, Nat.mod_eq_of_lt hlt]

/-! The two parts of a command's word. -/

/-- `OP` of a command (R71). -/
def Instr.opcode : Instr → BitVec 4
  | .silence _ => 0x1#4
  | .pulse _ => 0x2#4
  | .bit _ => 0x3#4
  | .byte _ => 0x4#4
  | .sync _ => 0x5#4
  | .setbaud _ => 0x6#4

/-- `ARG` of a command: the operand below the reserved bits, which are 0 (R71, R73). -/
def Instr.arg : Instr → BitVec 28
  | .silence n => n
  | .pulse f => 0#27 ++ f
  | .bit v => 0#27 ++ v
  | .byte d => 0#20 ++ d
  | .sync n => n
  | .setbaud b => 0#27 ++ b

/-- Setting the low bits, where there are zeros, is putting the two parts together. -/
theorem append_zero_or_setWidth {m n : Nat} (x : BitVec m) (y : BitVec n) :
    (x ++ 0#n) ||| y.setWidth (m + n) = x ++ y := by
  have hy : y.toNat % 2 ^ (m + n) = y.toNat :=
    Nat.mod_eq_of_lt (y.isLt.trans_le (Nat.pow_le_pow_right Nat.two_pos (Nat.le_add_left n m)))
  apply BitVec.eq_of_toNat_eq
  simp [BitVec.toNat_append, hy]

theorem setWidth_bit_eq (b : BitVec 1) : b.setWidth 32 = (0#27 ++ b).setWidth 32 := by revert b; decide

theorem setWidth_byte_eq (d : BitVec 8) : d.setWidth 32 = (0#20 ++ d).setWidth 32 := by revert d; decide

theorem encode_eq_append (i : Instr) : encode i = i.opcode ++ i.arg := by
  cases i with
  | silence n => exact append_zero_or_setWidth 0x1#4 n
  | pulse f => rw [encode, setWidth_bit_eq]; exact append_zero_or_setWidth 0x2#4 (0#27 ++ f)
  | bit v => rw [encode, setWidth_bit_eq]; exact append_zero_or_setWidth 0x3#4 (0#27 ++ v)
  | byte d => rw [encode, setWidth_byte_eq]; exact append_zero_or_setWidth 0x4#4 (0#20 ++ d)
  | sync n => exact append_zero_or_setWidth 0x5#4 n
  | setbaud b => rw [encode, setWidth_bit_eq]; exact append_zero_or_setWidth 0x6#4 (0#27 ++ b)

/-- The value of a command's word (R81). -/
theorem encode_toNat (i : Instr) : (encode i).toNat = 2 ^ 28 * i.opcode.toNat + i.arg.toNat := by
  rw [encode_eq_append, Machine.toNat_append_eq_add]

/-! The decoder's answer for each opcode (R77). -/

section
variable {w : Word}

theorem decode_of_opField_silence (h : opField w = 0x1#4) : decode w = .ok (.silence (argField w)) := by
  simp [decode, h]

theorem decode_of_opField_pulse (h : opField w = 0x2#4) :
    decode w = if bitField w 1 27 ≠ 0#27 then .error .reservedBits else .ok (.pulse (bitAt w 0)) := by
  simp [decode, h]

theorem decode_of_opField_bit (h : opField w = 0x3#4) :
    decode w = if bitField w 1 27 ≠ 0#27 then .error .reservedBits else .ok (.bit (bitAt w 0)) := by
  simp [decode, h]

theorem decode_of_opField_byte (h : opField w = 0x4#4) :
    decode w = if bitField w 8 20 ≠ 0#20 then .error .reservedBits else .ok (.byte (bitField w 0 8)) := by
  simp [decode, h]

theorem decode_of_opField_sync (h : opField w = 0x5#4) : decode w = .ok (.sync (argField w)) := by
  simp [decode, h]

theorem decode_of_opField_setbaud (h : opField w = 0x6#4) :
    decode w = if bitField w 1 27 ≠ 0#27 then .error .reservedBits else .ok (.setbaud (bitAt w 0)) := by
  simp [decode, h]

/-- An opcode of no command is one of 0 and 7 to 15 (R74). -/
theorem decode_of_opField_illegal (h : ∀ i : Instr, opField w ≠ i.opcode) : decode w = .error .illegalOpcode := by
  have h1 : opField w ≠ 0x1#4 := h (.silence 0#28)
  have h2 : opField w ≠ 0x2#4 := h (.pulse 0#1)
  have h3 : opField w ≠ 0x3#4 := h (.bit 0#1)
  have h4 : opField w ≠ 0x4#4 := h (.byte 0#8)
  have h5 : opField w ≠ 0x5#4 := h (.sync 0#28)
  have h6 : opField w ≠ 0x6#4 := h (.setbaud 0#1)
  simp [decode, h1, h2, h3, h4, h5, h6]

theorem argField_eq_bit_iff {b : BitVec 1} : argField w = 0#27 ++ b ↔ bitField w 1 27 = 0#27 ∧ bitAt w 0 = b :=
  bitField_eq_append_iff (lo := 0) (len := 1) (len' := 27)

theorem argField_eq_byte_iff {d : BitVec 8} : argField w = 0#20 ++ d ↔ bitField w 8 20 = 0#20 ∧ bitField w 0 8 = d :=
  bitField_eq_append_iff (lo := 0) (len := 8) (len' := 20)

/-- A word decodes to a command exactly when both its fields are the command's: the reserved bits of `ARG` count. -/
theorem decode_eq_ok_iff {i : Instr} : decode w = .ok i ↔ opField w = i.opcode ∧ argField w = i.arg := by
  constructor
  · intro h
    unfold decode at h
    split_ifs at h with h1 h2 hres2 h3 hres3 h4 hres4 h5 h6 hres6 <;> cases h
    · exact ⟨h1, rfl⟩
    · exact ⟨h2, argField_eq_bit_iff.2 ⟨not_not.1 hres2, rfl⟩⟩
    · exact ⟨h3, argField_eq_bit_iff.2 ⟨not_not.1 hres3, rfl⟩⟩
    · exact ⟨h4, argField_eq_byte_iff.2 ⟨not_not.1 hres4, rfl⟩⟩
    · exact ⟨h5, rfl⟩
    · exact ⟨h6, argField_eq_bit_iff.2 ⟨not_not.1 hres6, rfl⟩⟩
  · rintro ⟨hop, harg⟩
    cases i with
    | silence n => rw [decode_of_opField_silence hop, harg]; rfl
    | pulse f =>
      obtain ⟨hres, hbit⟩ := argField_eq_bit_iff.1 harg
      rw [decode_of_opField_pulse hop, if_neg (not_not.2 hres), hbit]
    | bit v =>
      obtain ⟨hres, hbit⟩ := argField_eq_bit_iff.1 harg
      rw [decode_of_opField_bit hop, if_neg (not_not.2 hres), hbit]
    | byte d =>
      obtain ⟨hres, hbyte⟩ := argField_eq_byte_iff.1 harg
      rw [decode_of_opField_byte hop, if_neg (not_not.2 hres), hbyte]
    | sync n => rw [decode_of_opField_sync hop, harg]; rfl
    | setbaud b =>
      obtain ⟨hres, hbit⟩ := argField_eq_bit_iff.1 harg
      rw [decode_of_opField_setbaud hop, if_neg (not_not.2 hres), hbit]

/-- Every command has one word, and only that word decodes to it (R71, R75). -/
theorem decode_eq_ok_iff_encode_eq {i : Instr} : decode w = .ok i ↔ encode i = w := by
  rw [decode_eq_ok_iff, encode_eq_append, eq_comm (b := i.opcode), eq_comm (b := i.arg), ← append_eq_append_iff,
    opField_append_argField]

end

/-- Settles O1: the word of a command is the one word that decodes to it. -/
theorem decodeOfEncode : Obligations.DecodeOfEncode := fun _ => decode_eq_ok_iff_encode_eq.2 rfl

/-- Settles O2: the same equivalence from the other side. -/
theorem encodeOfDecode : Obligations.EncodeOfDecode := fun _ _ => decode_eq_ok_iff_encode_eq.1

/-- Settles O5: each legal word is the encoder's word of its command, which O1 reads back. -/
theorem tableWordsDecode : Obligations.TableWordsDecode :=
  ⟨decodeOfEncode (.silence 3#28), decodeOfEncode (.pulse 1#1), decodeOfEncode (.bit 0#1),
    decodeOfEncode (.byte 0x41#8), decodeOfEncode (.sync 0xFFFFFFF#28), decodeOfEncode (.setbaud 1#1), rfl, rfl⟩

/-! The decoder in arithmetic on the word's value (R77). -/

theorem argField_eq_ofNat (w : Word) : argField w = BitVec.ofNat 28 (w.toNat % 2 ^ 28) := bitField_zero_eq_ofNat w 28

theorem bitAt_zero_eq_ofNat (w : Word) : bitAt w 0 = BitVec.ofNat 1 (w.toNat % 2) := bitField_zero_eq_ofNat w 1

theorem lowByte_eq_ofNat (w : Word) : bitField w 0 8 = BitVec.ofNat 8 (w.toNat % 256) := bitField_zero_eq_ofNat w 8

theorem reservedAboveBit_eq_zero_iff (w : Word) : bitField w 1 27 = 0#27 ↔ w.toNat % 2 ^ 28 / 2 = 0 :=
  bitField_eq_zero_iff w 1 27

theorem reservedAboveByte_eq_zero_iff (w : Word) : bitField w 8 20 = 0#20 ↔ w.toNat % 2 ^ 28 / 256 = 0 :=
  bitField_eq_zero_iff w 8 20

theorem Instr.opcode_bounds (i : Instr) : 1 ≤ i.opcode.toNat ∧ i.opcode.toNat ≤ 6 := by
  cases i <;> simp [Instr.opcode]

/-- The illegal opcodes (R74). -/
theorem decode_of_illegalOpcode {w : Word} (h : w.toNat / 2 ^ 28 = 0 ∨ 7 ≤ w.toNat / 2 ^ 28) :
    decode w = .error .illegalOpcode := by
  refine decode_of_opField_illegal fun i hop => ?_
  have hbounds := i.opcode_bounds
  rw [← opField_eq_iff.1 hop] at hbounds
  omega

/-- Settles O3: one decoder lemma for each opcode, with the fields in arithmetic. -/
theorem decoderChecksOpcodeThenReservedBits : Obligations.DecoderChecksOpcodeThenReservedBits := by
  intro w
  refine ⟨fun h => ?_, fun h => ?_, fun h => ?_, fun h => ?_, fun h => ?_, fun h => ?_, decode_of_illegalOpcode⟩
  · rw [decode_of_opField_silence (opField_eq_iff.2 h), argField_eq_ofNat]
  · simp only [decode_of_opField_pulse (opField_eq_iff.2 h), ne_eq, reservedAboveBit_eq_zero_iff, bitAt_zero_eq_ofNat]
  · simp only [decode_of_opField_bit (opField_eq_iff.2 h), ne_eq, reservedAboveBit_eq_zero_iff, bitAt_zero_eq_ofNat]
  · simp only [decode_of_opField_byte (opField_eq_iff.2 h), ne_eq, reservedAboveByte_eq_zero_iff, lowByte_eq_ofNat]
  · rw [decode_of_opField_sync (opField_eq_iff.2 h), argField_eq_ofNat]
  · simp only [decode_of_opField_setbaud (opField_eq_iff.2 h), ne_eq, reservedAboveBit_eq_zero_iff,
      bitAt_zero_eq_ofNat]

/-! How many words there are of each kind (R78). -/

theorem encode_injective : Function.Injective encode := fun i _ h =>
  Except.ok.inj ((decodeOfEncode i).symm.trans (decode_eq_ok_iff_encode_eq.2 h.symm))

/-- The words that decode to commands of one kind are as many as its operands. -/
theorem natCard_words_of_kind {α : Type} {kind : α → Instr} (hkind : Function.Injective kind) :
    Nat.card { w : Word // ∃ a, decode w = .ok (kind a) } = Nat.card α := calc
  _ = Nat.card (Set.range (encode ∘ kind)) :=
    Nat.card_congr (Equiv.subtypeEquivRight fun _ => exists_congr fun _ => decode_eq_ok_iff_encode_eq)
  _ = Nat.card α := Nat.card_range_of_injective (encode_injective.comp hkind)

theorem natCard_bitVec (n : Nat) : Nat.card (BitVec n) = 2 ^ n := by
  rw [Nat.card_congr BitVec.equivFin.toEquiv, Nat.card_fin]

/-- A command is its kind and its operand. -/
def Instr.equivOperands : Instr ≃ BitVec 28 ⊕ BitVec 1 ⊕ BitVec 1 ⊕ BitVec 8 ⊕ BitVec 28 ⊕ BitVec 1 where
  toFun
    | .silence n => .inl n
    | .pulse f => .inr (.inl f)
    | .bit v => .inr (.inr (.inl v))
    | .byte d => .inr (.inr (.inr (.inl d)))
    | .sync n => .inr (.inr (.inr (.inr (.inl n))))
    | .setbaud b => .inr (.inr (.inr (.inr (.inr b))))
  invFun
    | .inl n => .silence n
    | .inr (.inl f) => .pulse f
    | .inr (.inr (.inl v)) => .bit v
    | .inr (.inr (.inr (.inl d))) => .byte d
    | .inr (.inr (.inr (.inr (.inl n)))) => .sync n
    | .inr (.inr (.inr (.inr (.inr b)))) => .setbaud b
  left_inv i := by cases i <;> rfl
  right_inv := by rintro (n | f | v | d | n | b) <;> rfl

theorem natCard_instr : Nat.card Instr = 2 ^ 29 + 262 := by
  rw [Nat.card_congr Instr.equivOperands]
  simp only [Nat.card_sum, natCard_bitVec]
  norm_num

/-- The legal words are as many as the commands. -/
theorem natCard_legal_words : Nat.card { w : Word // ∃ i, decode w = .ok i } = 2 ^ 29 + 262 :=
  (natCard_words_of_kind (kind := id) Function.injective_id).trans natCard_instr

/-- A word is rejected exactly when it decodes to no command. -/
theorem exists_decode_eq_error_iff {w : Word} : (∃ c, decode w = .error c) ↔ ¬ ∃ i, decode w = .ok i := by
  cases decode w <;> simp

/-- Every word is a command or is rejected. -/
theorem natCard_legal_add_rejected :
    Nat.card { w : Word // ∃ i, decode w = .ok i } + Nat.card { w : Word // ∃ c, decode w = .error c } = 2 ^ 32 := by
  classical
  rw [Nat.card_congr (Equiv.subtypeEquivRight fun _ => exists_decode_eq_error_iff), ← Nat.card_sum,
    Nat.card_congr (Equiv.sumCompl fun w : Word => ∃ i, decode w = .ok i), natCard_bitVec]

/-- Settles O4: as many words as operands for each command, and the rest of the 2^32 are rejected. -/
theorem legalWordCounts : Obligations.LegalWordCounts := by
  refine ⟨?_, ?_, ?_, ?_, ?_, ?_, ?_⟩
  · exact (natCard_words_of_kind fun _ _ => Instr.silence.inj).trans (natCard_bitVec 28)
  · exact (natCard_words_of_kind fun _ _ => Instr.pulse.inj).trans (natCard_bitVec 1)
  · exact (natCard_words_of_kind fun _ _ => Instr.bit.inj).trans (natCard_bitVec 1)
  · exact (natCard_words_of_kind fun _ _ => Instr.byte.inj).trans (natCard_bitVec 8)
  · exact (natCard_words_of_kind fun _ _ => Instr.sync.inj).trans (natCard_bitVec 28)
  · exact (natCard_words_of_kind fun _ _ => Instr.setbaud.inj).trans (natCard_bitVec 1)
  · have htotal := natCard_legal_add_rejected
    rw [natCard_legal_words] at htotal
    omega

end Sys2Proof

/-! The rejection of a word (60_exceptions.md R171, R173), for each cause (30_encoding.md R74, R75). -/

namespace Sys2Proof.Machine

/-- The rejection action: only the error report changes; it shows an error, and the first one is recorded. -/
theorem step_of_rejected_word {s : State} {c : Cause} (hl : s.Live) (hi : s.idle = true) (hr : s.pins.rst = false)
    (hv : s.pins.cmdValid = true) (hdec : decode s.pins.cmdData = .error c) :
    ∃ t : State, step s = .next t ∧
      t = { s with inputs := s.inputs.tail, err := t.err, errCode := t.errCode, errCmd := t.errCmd } ∧
      t.err = 1#1 ∧ (s.err = 0#1 → t.errCode = c.code ∧ t.errCmd = s.pins.cmdData) ∧ t.pending = [] := by
  have hm : s.mode = M_IDLE := s.idle_iff.1 hi
  have hstep : step s = .next (if s.err = 0#1 then s.popInput.setError c.code s.pins.cmdData else s.popInput) := by
    rw [step_of_acceptedWord (acceptedWord_eq_some.2 (edgeOf_accept hl.1 hi hr hv)), accept, hdec]
    rfl
  refine ⟨_, hstep, ?_⟩
  rcases bit_cases s.err with herr | herr
  · rw [if_pos herr]
    exact ⟨rfl, rfl, fun _ => ⟨rfl, rfl⟩, State.pending_of_idle hm⟩
  · have hne : s.err ≠ 0#1 := by rw [herr]; decide
    rw [if_neg hne]
    exact ⟨rfl, herr, fun h => absurd h hne, State.pending_of_idle hm⟩

/-- Settles O32: the decoder answers `ILLEGAL_OPCODE` for such a word, and the step is the rejection action. -/
theorem illegalOpcodeRejected : Obligations.IllegalOpcodeRejected := by
  refine ⟨fun s hl hi hr hv hop => ?_, rfl, rfl⟩
  have hdec : decode s.pins.cmdData = .error .illegalOpcode := decode_of_illegalOpcode hop
  exact ⟨not_exists.1 (exists_decode_eq_error_iff.1 ⟨_, hdec⟩), step_of_rejected_word hl hi hr hv hdec⟩

/-- A reserved bit is looked at where the opcode has reserved bits (R75). -/
theorem decode_of_reservedBits {w : Word}
    (h : ((w.toNat / 2 ^ 28 = 2 ∨ w.toNat / 2 ^ 28 = 3 ∨ w.toNat / 2 ^ 28 = 6) ∧ w.toNat % 2 ^ 28 / 2 ≠ 0) ∨
      (w.toNat / 2 ^ 28 = 4 ∧ w.toNat % 2 ^ 28 / 256 ≠ 0)) :
    decode w = .error .reservedBits := by
  obtain ⟨-, hpulse, hbit, hbyte, -, hsetbaud, -⟩ := decoderChecksOpcodeThenReservedBits w
  rcases h with ⟨hop | hop | hop, hres⟩ | ⟨hop, hres⟩
  · rw [hpulse hop, if_pos hres]
  · rw [hbit hop, if_pos hres]
  · rw [hsetbaud hop, if_pos hres]
  · rw [hbyte hop, if_pos hres]

/-- Settles O33: the decoder answers `RESERVED_BITS` for such a word, and the step is the rejection action. -/
theorem reservedBitsRejected : Obligations.ReservedBitsRejected := by
  refine ⟨fun s hl hi hr hv hres => step_of_rejected_word hl hi hr hv (decode_of_reservedBits hres), ?_, rfl⟩
  rintro w (hop | hop)
  · exact ⟨_, decode_of_opField_silence (opField_eq_iff.2 hop)⟩
  · exact ⟨_, decode_of_opField_sync (opField_eq_iff.2 hop)⟩

end Sys2Proof.Machine

/-! The assembler (30_encoding.md R81, R84): the words of a line, and a count split over several commands. -/

namespace Sys2Proof.Machine

theorem assembleLine_of_wellFormed {l : AsmLine} (h : l.wellFormed = true) : assembleLine l = some (lineWords l) :=
  if_pos h

theorem assembleLine_of_not_wellFormed {l : AsmLine} (h : l.wellFormed = false) : assembleLine l = none := by
  rw [assembleLine, h]
  rfl

/-! Counts. -/

theorem splitCount_of_le {n : Nat} (h : n ≤ Config.maxCount) : splitCount n = [BitVec.ofNat 28 n] := if_pos h

theorem splitCount_of_lt {n : Nat} (h : Config.maxCount < n) :
    splitCount n = List.replicate (n / Config.maxCount) (BitVec.ofNat 28 Config.maxCount) ++
      [BitVec.ofNat 28 (n % Config.maxCount)] :=
  if_neg (Nat.not_le.2 h)

theorem toNat_ofNat_of_le_maxCount {n : Nat} (h : n ≤ Config.maxCount) : (BitVec.ofNat 28 n).toNat = n := by
  rw [BitVec.toNat_ofNat, Nat.mod_eq_of_lt]
  unfold Config.maxCount at h
  omega

/-- The commands of a split count have the count as their sum. -/
theorem sum_splitCount (n : Nat) : ((splitCount n).map BitVec.toNat).sum = n := by
  rcases le_or_gt n Config.maxCount with h | h
  · rw [splitCount_of_le h, List.map_singleton, List.sum_singleton, toNat_ofNat_of_le_maxCount h]
  · have hrem : n % Config.maxCount ≤ Config.maxCount := (Nat.mod_lt n (by decide)).le
    rw [splitCount_of_lt h, List.map_append, List.map_replicate, List.map_singleton, List.sum_append,
      List.sum_replicate, List.sum_singleton, toNat_ofNat_of_le_maxCount le_rfl, toNat_ofNat_of_le_maxCount hrem,
      smul_eq_mul, Nat.div_add_mod']

/-- Commands that emit a sequence in proportion to their counts, and leave the baud selection, emit it in proportion to
the sum of their counts. -/
theorem streamOf_map_counts {tie : Config.SineTieLow} {b : BitVec 1} {kind : BitVec 28 → Instr} {k : Nat}
    {x : List Sample} (hbaud : ∀ c b', kind c ≠ .setbaud b')
    (hsamples : ∀ c, commandSamples tie b (kind c) = repeatSeq (c.toNat * k) x) (cs : List (BitVec 28)) :
    streamOf tie b (cs.map fun c => encode (kind c)) = repeatSeq ((cs.map BitVec.toNat).sum * k) x := by
  induction cs with
  | nil => simp
  | cons c cs ih =>
    have hdec : decode (encode (kind c)) = .ok (kind c) := decodeOfEncode (kind c)
    have hkeep : baudAfter b (encode (kind c)) = b :=
      baudAfter_of_not_setbaud b fun b' h => hbaud c b' (Except.ok.inj (hdec.symm.trans h))
    rw [List.map_cons, streamOf_cons, wordSamples_ok hdec, hsamples, hkeep, ih, ← repeatSeq_add, ← Nat.add_mul,
      List.map_cons, List.sum_cons]

theorem repeatSeq_singleton (n : Nat) (x : Sample) : repeatSeq n [x] = List.replicate n x := by
  rw [repeatSeq, List.flatten_replicate_singleton]

/-- The words of a `SILENCE` line emit its count of samples, however large (R84, R110). -/
theorem streamOf_silence_line (tie : Config.SineTieLow) (b : BitVec 1) (n : Nat) :
    streamOf tie b (lineWords (.silence n)) = List.replicate n 128#8 := by
  have hstream := streamOf_map_counts (tie := tie) (b := b) (kind := .silence) (k := 1) (x := [Config.dcBias])
    (by simp) (by simp) (splitCount n)
  rw [sum_splitCount, Nat.mul_one, repeatSeq_singleton] at hstream
  exact hstream

/-- `BAUD` is a whole multiple of 1200, so the one bits of a tone are in proportion to its count (R150). -/
theorem mul_baudOf_div (n : Nat) (b : BitVec 1) : n * baudOf b / 1200 = n * (baudOf b / 1200) := by
  refine Nat.mul_div_assoc n ?_
  rcases bit_cases b with rfl | rfl <;> decide

/-- The words of a `SYNC` line emit the one bits of its count, however large (R84, R150). -/
theorem streamOf_sync_line (tie : Config.SineTieLow) (b : BitVec 1) (n : Nat) :
    streamOf tie b (lineWords (.sync n)) = repeatSeq (n * baudOf b / 1200) (bitSeq tie b 1#1) := by
  have hstream := streamOf_map_counts (tie := tie) (b := b) (kind := .sync) (k := baudOf b / 1200)
    (x := bitSeq tie b 1#1) (by simp) (fun c => by rw [commandSamples_sync, syncCount, mul_baudOf_div]) (splitCount n)
  rw [sum_splitCount, ← mul_baudOf_div] at hstream
  exact hstream

/-- The words of a split count that does not fit one command (R84). -/
theorem map_splitCount_of_lt {n : Nat} (h : Config.maxCount < n) (kind : BitVec 28 → Instr) :
    ((splitCount n).map fun c => encode (kind c)) =
      List.replicate (n / Config.maxCount) (encode (kind (BitVec.ofNat 28 Config.maxCount))) ++
        [encode (kind (BitVec.ofNat 28 (n % Config.maxCount)))] := by
  rw [splitCount_of_lt h, List.map_append, List.map_replicate, List.map_singleton]

/-- Settles O59: the words of the split, and their stream, which depends on the sum of the counts only. -/
theorem largeCountsAreSplit : Obligations.LargeCountsAreSplit := fun n hn =>
  ⟨⟨_, assembleLine_of_wellFormed rfl, map_splitCount_of_lt hn .silence, fun tie b => streamOf_silence_line tie b n⟩,
    ⟨_, assembleLine_of_wellFormed rfl, map_splitCount_of_lt hn .sync, fun tie b => streamOf_sync_line tie b n⟩⟩

/-! Words. -/

/-- A command's word is given by its opcode and the value of its operand field (R71, R81). -/
theorem encode_eq_ofNat {i : Instr} {k n : Nat} (hop : 2 ^ 28 * i.opcode.toNat = k) (harg : i.arg.toNat = n) :
    encode i = BitVec.ofNat 32 (k + n) := by
  rw [← hop, ← harg, ← encode_toNat, BitVec.ofNat_toNat, BitVec.setWidth_eq]

/-- A count that fits is one word (R81). -/
theorem map_splitCount_of_le {n : Nat} (h : n ≤ Config.maxCount) (kind : BitVec 28 → Instr) :
    ((splitCount n).map fun c => encode (kind c)) = [encode (kind (BitVec.ofNat 28 n))] := by
  rw [splitCount_of_le h, List.map_singleton]

theorem assembleLine_silence {n : Nat} (h : n ≤ Config.maxCount) :
    assembleLine (.silence n) = some [BitVec.ofNat 32 (0x10000000 + n)] := by
  have hword : encode (.silence (BitVec.ofNat 28 n)) = BitVec.ofNat 32 (0x10000000 + n) :=
    encode_eq_ofNat rfl (toNat_ofNat_of_le_maxCount h)
  rw [assembleLine_of_wellFormed rfl, lineWords, map_splitCount_of_le h, hword]

theorem assembleLine_sync {n : Nat} (h : n ≤ Config.maxCount) :
    assembleLine (.sync n) = some [BitVec.ofNat 32 (0x50000000 + n)] := by
  have hword : encode (.sync (BitVec.ofNat 28 n)) = BitVec.ofNat 32 (0x50000000 + n) :=
    encode_eq_ofNat rfl (toNat_ofNat_of_le_maxCount h)
  rw [assembleLine_of_wellFormed rfl, lineWords, map_splitCount_of_le h, hword]

theorem toNat_byteArg {d : Nat} (h : d ≤ 255) : (Instr.byte (BitVec.ofNat 8 d)).arg.toNat = d := by
  rw [Instr.arg, toNat_append_eq_add, BitVec.toNat_ofNat, BitVec.toNat_ofNat]
  omega

theorem assembleLine_byte {d : Nat} (h : d ≤ 255) :
    assembleLine (.byte d) = some [BitVec.ofNat 32 (0x40000000 + d)] := by
  have hword : encode (.byte (BitVec.ofNat 8 d)) = BitVec.ofNat 32 (0x40000000 + d) :=
    encode_eq_ofNat rfl (toNat_byteArg h)
  rw [assembleLine_of_wellFormed (l := .byte d) (decide_eq_true h), lineWords, hword]

theorem assembleLine_rawWord {w : Nat} (h : w < 2 ^ 32) : assembleLine (.rawWord w) = some [BitVec.ofNat 32 w] :=
  assembleLine_of_wellFormed (decide_eq_true h)

/-- Settles O60: the words of each line in its operand's range, and `none` outside it. -/
theorem assemblerWords : Obligations.AssemblerWords := by
  refine ⟨fun n hn => ?_, fun d => assembleLine_byte, rfl, rfl, rfl, rfl, rfl, rfl, fun w => assembleLine_rawWord,
    fun v h1 h2 => ?_, fun v hv => ?_, fun d hd => ?_, fun w hw => ?_⟩
  · have hle : n ≤ Config.maxCount := Nat.le_of_lt_succ hn
    exact ⟨assembleLine_silence hle, assembleLine_sync hle⟩
  · have hrange : (v == 1200 || v == 2400) = false := by simp [h1, h2]
    exact ⟨assembleLine_of_not_wellFormed hrange, assembleLine_of_not_wellFormed hrange⟩
  · have hrange : (v == 0 || v == 1) = false := by
      simp
      omega
    exact assembleLine_of_not_wellFormed hrange
  · exact assembleLine_of_not_wellFormed (decide_eq_false (Nat.not_le.2 hd))
  · exact assembleLine_of_not_wellFormed (decide_eq_false (Nat.not_lt.2 hw))

end Sys2Proof.Machine

/-! The waveform (40_waveform.md R100 to R116): the sine ROM against the real sine, the three pulses that occur, and what
`SILENCE` and `PULSE` load and emit. -/

namespace Sys2Proof.Machine

/-! The ROM's entries as a list, on which a fact is checked in one pass. -/

/-- With 64 at the ties the ROM is the table of R101. -/
theorem getElem?_sineTable (θ : Fin 360) : sineTable[θ.val]? = some (romEntry .tie64 θ) := by
  have h210 : sineTable[210]? = some 64#8 := rfl
  have h330 : sineTable[330]? = some 64#8 := rfl
  unfold romEntry
  split
  · next hθ =>
    rcases hθ with hθ | hθ <;> rw [hθ]
    · exact h210
    · exact h330
  · exact List.getElem?_eq_getElem _

/-- Only the entries 210 and 330 depend on `SINE_TIE_LOW` (R102). -/
theorem romEntry_of_ne_tie {θ : Fin 360} (hθ : ¬(θ.val = 210 ∨ θ.val = 330)) (tie tie' : Config.SineTieLow) :
    romEntry tie θ = romEntry tie' θ := by
  rw [romEntry, romEntry, if_neg hθ, if_neg hθ]

theorem lt_sineTable_length (θ : Fin 360) : θ.val < sineTable.length := by
  rw [sineTable_length]
  exact θ.isLt

theorem zero_notMem_sineTable : 0#8 ∉ sineTable := by decide +kernel

theorem sineTable_rotate_half : sineTable.rotate 180 = sineTable.map Neg.neg := by decide +kernel

theorem reverse_sineTable_rotate : (sineTable.rotate 181).reverse = sineTable := by decide +kernel

/-- No entry is 0 (R103). -/
theorem one_le_romEntry (θ : Fin 360) : 1 ≤ (romEntry .tie64 θ).toNat := by
  have hmem : romEntry .tie64 θ ∈ sineTable := List.mem_of_getElem? (getElem?_sineTable θ)
  have hne : romEntry .tie64 θ ≠ 0#8 := fun h => zero_notMem_sineTable (h ▸ hmem)
  bv_omega

/-- Half a turn mirrors the table about the bias (R103). -/
theorem romEntry_add_half (θ : Fin 360) : romEntry .tie64 (θ + 180) = -romEntry .tie64 θ := by
  have hval : (θ + 180 : Fin 360).val = (θ.val + 180) % sineTable.length := by
    rw [sineTable_length]
    rfl
  have h := getElem?_sineTable (θ + 180)
  rw [hval, ← List.getElem?_rotate (lt_sineTable_length θ), sineTable_rotate_half, List.getElem?_map,
    getElem?_sineTable] at h
  exact (Option.some.inj h).symm

/-- The table reads the same in both directions about 90 degrees (R103). -/
theorem romEntry_half_sub (θ : Fin 360) : romEntry .tie64 (180 - θ) = romEntry .tie64 θ := by
  have hlt := lt_sineTable_length θ
  have hval : (180 - θ : Fin 360).val = (sineTable.length - 1 - θ.val + 181) % sineTable.length := by
    have hsub : (180 - θ : Fin 360).val = (360 - θ.val + 180) % 360 := rfl
    rw [hsub, sineTable_length, Config.sineEntries]
    omega
  have h := getElem?_sineTable (180 - θ)
  rw [hval, ← List.getElem?_rotate (by omega), ← List.length_rotate (l := sineTable) (n := 181),
    ← List.getElem?_reverse (by rwa [List.length_rotate]), reverse_sineTable_rotate, getElem?_sineTable] at h
  exact (Option.some.inj h).symm

/-- Settles O43: the table's values at the quarter turns, and its two symmetries. -/
theorem romSymmetries : Obligations.RomSymmetries := by
  refine ⟨fun θ => ⟨one_le_romEntry θ, Nat.le_of_lt_succ (romEntry .tie64 θ).isLt⟩, rfl, rfl, rfl, rfl, fun θ => ?_,
    romEntry_half_sub⟩
  have hpos := one_le_romEntry θ
  rw [romEntry_add_half]
  bv_omega

/-! The sine of a whole number of degrees. -/

/-- `n` degrees as an angle. -/
noncomputable def degrees (n : ℕ) : ℝ := (n : ℝ) * Real.pi / 180

/-- The degrees at which `sin(θ)·127 + 128` is a half (R102). -/
def tieDegrees : List ℕ := [30, 150, 210, 330]

theorem sin_degrees_of_upper_tie {n : ℕ} (hn : n = 30 ∨ n = 150) : Real.sin (degrees n) = 1 / 2 := by
  have h30 : degrees 30 = Real.pi / 6 := by
    rw [degrees]
    ring
  have h150 : degrees 150 = Real.pi - Real.pi / 6 := by
    rw [degrees]
    ring
  rcases hn with rfl | rfl
  · rw [h30, Real.sin_pi_div_six]
  · rw [h150, Real.sin_pi_sub, Real.sin_pi_div_six]

theorem sin_degrees_add_half (n : ℕ) : Real.sin (degrees (n + 180)) = -Real.sin (degrees n) := by
  have hangle : degrees (n + 180) = degrees n + Real.pi := by
    rw [degrees, degrees]
    push_cast
    ring
  rw [hangle, Real.sin_add_pi]

theorem sin_degrees_of_lower_tie {n : ℕ} (hn : n = 210 ∨ n = 330) : Real.sin (degrees n) = -(1 / 2) := by
  have hn30 : n - 180 = 30 ∨ n - 180 = 150 := by omega
  have hsum : n = n - 180 + 180 := by omega
  rw [hsum, sin_degrees_add_half, sin_degrees_of_upper_tie hn30]

/-! A rational turn by one degree, and its powers. -/

/-- `cos 1° + i·sin 1°` to eight decimals, scaled by 10^8 and cut towards 0, so that its powers stay in the disc. -/
def degreeTurn : GaussianInt := ⟨99984769, 1745240⟩

theorem degrees_one_bounds : 0.0174532925 ≤ degrees 1 ∧ degrees 1 ≤ 0.0174532926 := by
  have hlo := Real.pi_gt_d20
  have hhi := Real.pi_lt_d20
  rw [degrees]
  constructor <;> push_cast <;> linarith

/-- Every power of the angle of one degree lies between the powers of its bounds. -/
theorem degrees_one_pow_bounds (n : ℕ) : 0.0174532925 ^ n ≤ degrees 1 ^ n ∧ degrees 1 ^ n ≤ 0.0174532926 ^ n := by
  obtain ⟨hlo, hhi⟩ := degrees_one_bounds
  have hpos : 0 ≤ degrees 1 := by linarith
  exact ⟨pow_le_pow_left₀ (by norm_num) hlo n, pow_le_pow_left₀ hpos hhi n⟩

theorem abs_degrees_one : |degrees 1| = degrees 1 := by
  rw [abs_of_nonneg]
  linarith [degrees_one_bounds.1]

theorem abs_degrees_one_le_one : |degrees 1| ≤ 1 := by
  rw [abs_degrees_one]
  linarith [degrees_one_bounds.2]

theorem sin_one_degree_near : |1745240 / 10 ^ 8 - Real.sin (degrees 1)| ≤ 1 / 10 ^ 8 := by
  obtain ⟨hlo, hhi⟩ := degrees_one_bounds
  obtain ⟨hlo3, hhi3⟩ := degrees_one_pow_bounds 3
  have hhi5 := (degrees_one_pow_bounds 5).2
  have hTaylor := Real.sin_bound abs_degrees_one_le_one
  rw [abs_degrees_one, abs_le] at hTaylor
  obtain ⟨hbelow, habove⟩ := hTaylor
  norm_num at hlo3 hhi3 hhi5
  rw [abs_le]
  constructor <;> linarith

theorem cos_one_degree_near : |99984769 / 10 ^ 8 - Real.cos (degrees 1)| ≤ 1 / 10 ^ 8 := by
  obtain ⟨hlo2, hhi2⟩ := degrees_one_pow_bounds 2
  have hhi4 := (degrees_one_pow_bounds 4).2
  have hTaylor := Real.cos_bound abs_degrees_one_le_one
  rw [abs_degrees_one, abs_le] at hTaylor
  obtain ⟨hbelow, habove⟩ := hTaylor
  norm_num at hlo2 hhi2 hhi4
  rw [abs_le]
  constructor <;> linarith

/-- In the unit disc powers move apart at most as fast as their exponent grows. -/
theorem norm_pow_sub_pow_le {z w : ℂ} (hz : ‖z‖ ≤ 1) (hw : ‖w‖ ≤ 1) (n : ℕ) : ‖z ^ n - w ^ n‖ ≤ n * ‖z - w‖ := by
  induction n with
  | zero => simp
  | succ n ih =>
    calc ‖z ^ (n + 1) - w ^ (n + 1)‖
        = ‖(z ^ n - w ^ n) * z + w ^ n * (z - w)‖ := by ring_nf
      _ ≤ ‖z ^ n - w ^ n‖ * ‖z‖ + ‖w‖ ^ n * ‖z - w‖ := by
        rw [← norm_mul, ← norm_pow, ← norm_mul]
        exact norm_add_le _ _
      _ ≤ n * ‖z - w‖ * 1 + 1 * ‖z - w‖ := by
        have hwn : ‖w‖ ^ n ≤ 1 := pow_le_one₀ (norm_nonneg w) hw
        gcongr
      _ = (n + 1 : ℕ) * ‖z - w‖ := by push_cast; ring

/-- The exact turn by one degree. -/
noncomputable def unitTurn : ℂ := Complex.exp (degrees 1 * Complex.I)

theorem unitTurn_re : unitTurn.re = Real.cos (degrees 1) := Complex.exp_ofReal_mul_I_re (degrees 1)

theorem unitTurn_im : unitTurn.im = Real.sin (degrees 1) := Complex.exp_ofReal_mul_I_im (degrees 1)

theorem norm_unitTurn : ‖unitTurn‖ = 1 := Complex.norm_exp_ofReal_mul_I (degrees 1)

/-- De Moivre, for whole degrees. -/
theorem unitTurn_pow_im (n : ℕ) : (unitTurn ^ n).im = Real.sin (degrees n) := by
  have hangle : (n : ℂ) * (degrees 1 * Complex.I) = degrees n * Complex.I := by
    rw [degrees, degrees]
    push_cast
    ring
  rw [unitTurn, ← Complex.exp_nat_mul, hangle, Complex.exp_ofReal_mul_I_im]

/-- `degreeTurn` with its scale taken off. -/
noncomputable def rationalTurn : ℂ := (degreeTurn : ℂ) / (10 ^ 8 : ℝ)

theorem rationalTurn_re : rationalTurn.re = 99984769 / 10 ^ 8 := by
  rw [rationalTurn, Complex.div_ofReal_re, degreeTurn, GaussianInt.re_toComplex]
  norm_num

theorem rationalTurn_im : rationalTurn.im = 1745240 / 10 ^ 8 := by
  rw [rationalTurn, Complex.div_ofReal_im, degreeTurn, GaussianInt.im_toComplex]
  norm_num

theorem rationalTurn_pow_im (n : ℕ) : (rationalTurn ^ n).im = ((degreeTurn ^ n).im : ℝ) / 10 ^ (8 * n) := by
  rw [rationalTurn, div_pow, ← map_pow, ← Complex.ofReal_pow, Complex.div_ofReal_im, ← GaussianInt.intCast_im, pow_mul]

theorem norm_rationalTurn_le : ‖rationalTurn‖ ≤ 1 := by
  rw [← sq_le_one_iff₀ (norm_nonneg _), Complex.sq_norm, Complex.normSq_apply, rationalTurn_re, rationalTurn_im]
  norm_num

theorem norm_rationalTurn_sub_unitTurn : ‖rationalTurn - unitTurn‖ ≤ 2 / 10 ^ 8 := by
  have hre : (rationalTurn - unitTurn).re = 99984769 / 10 ^ 8 - Real.cos (degrees 1) := by
    rw [Complex.sub_re, rationalTurn_re, unitTurn_re]
  have him : (rationalTurn - unitTurn).im = 1745240 / 10 ^ 8 - Real.sin (degrees 1) := by
    rw [Complex.sub_im, rationalTurn_im, unitTurn_im]
  calc ‖rationalTurn - unitTurn‖
      ≤ |(rationalTurn - unitTurn).re| + |(rationalTurn - unitTurn).im| := Complex.norm_le_abs_re_add_abs_im _
    _ ≤ 1 / 10 ^ 8 + 1 / 10 ^ 8 := by
      rw [hre, him]
      exact add_le_add cos_one_degree_near sin_one_degree_near
    _ = 2 / 10 ^ 8 := by norm_num

/-- The powers of the rational turn follow the sine. -/
theorem degreeTurn_pow_im_near (n : ℕ) :
    |((degreeTurn ^ n).im : ℝ) / 10 ^ (8 * n) - Real.sin (degrees n)| ≤ n * (2 / 10 ^ 8) :=
  calc |((degreeTurn ^ n).im : ℝ) / 10 ^ (8 * n) - Real.sin (degrees n)|
      = |(rationalTurn ^ n - unitTurn ^ n).im| := by rw [Complex.sub_im, rationalTurn_pow_im, unitTurn_pow_im]
    _ ≤ ‖rationalTurn ^ n - unitTurn ^ n‖ := Complex.abs_im_le_norm _
    _ ≤ n * ‖rationalTurn - unitTurn‖ := norm_pow_sub_pow_le norm_rationalTurn_le norm_unitTurn.le n
    _ ≤ n * (2 / 10 ^ 8) := by gcongr; exact norm_rationalTurn_sub_unitTurn

/-! The ROM is the rounded sine. -/

/-- How far the entry `x` is above `sin(n°)·127 + 128`, by the rational turn and scaled by 10^(8n). -/
def scaledError (x : Sample) (n : ℕ) : ℤ := ((x.toNat : ℤ) - 128) * 10 ^ (8 * n) - 127 * (degreeTurn ^ n).im

/-- Away from the ties every entry of the table is nearer than a half, by a margin that covers the error of the
rational turn. -/
theorem scaledError_le : ∀ p ∈ sineTable.zipIdx, p.2 ∉ tieDegrees →
    1000 * |scaledError p.1 p.2| ≤ 499 * 10 ^ (8 * p.2) := by decide +kernel

theorem romEntry_near_of_ne_tie {θ : Fin 360} (hθ : θ.val ∉ tieDegrees) :
    |((romEntry .tie64 θ).toNat : ℝ) - (Real.sin (degrees θ.val) * 127 + 128)| ≤ 1 / 2 := by
  have hmem : (romEntry .tie64 θ, θ.val) ∈ sineTable.zipIdx :=
    List.mk_mem_zipIdx_iff_getElem?.2 (getElem?_sineTable θ)
  have hscale : (0 : ℝ) < 10 ^ (8 * θ.val) := by positivity
  have hint : (1000 : ℝ) * |(scaledError (romEntry .tie64 θ) θ.val : ℝ)| ≤ 499 * 10 ^ (8 * θ.val) := by
    exact_mod_cast scaledError_le _ hmem hθ
  have htable : |(scaledError (romEntry .tie64 θ) θ.val : ℝ) / 10 ^ (8 * θ.val)| ≤ 499 / 1000 := by
    rw [abs_div, abs_of_pos hscale, div_le_iff₀ hscale]
    linarith
  have hturn := degreeTurn_pow_im_near θ.val
  have hθ360 : (θ.val : ℝ) ≤ 360 := by exact_mod_cast θ.isLt.le
  have hsplit : (scaledError (romEntry .tie64 θ) θ.val : ℝ) / 10 ^ (8 * θ.val) =
      ((romEntry .tie64 θ).toNat : ℝ) - 128 - 127 * (((degreeTurn ^ θ.val).im : ℝ) / 10 ^ (8 * θ.val)) := by
    rw [scaledError]
    push_cast
    field_simp
  rw [hsplit] at htable
  rw [abs_le] at htable hturn ⊢
  constructor <;> linarith [htable.1, htable.2, hturn.1, hturn.2]

theorem romEntry_of_upper_tie {θ : Fin 360} (hθ : θ.val = 30 ∨ θ.val = 150) (tie : Config.SineTieLow) :
    romEntry tie θ = 192#8 := by
  have hθ : θ = 30 ∨ θ = 150 := hθ.imp Fin.ext Fin.ext
  rcases hθ with rfl | rfl <;> rfl

theorem romEntry_of_lower_tie {θ : Fin 360} (hθ : θ.val = 210 ∨ θ.val = 330) (tie : Config.SineTieLow) :
    romEntry tie θ = tieValue tie := if_pos hθ

/-- At a tie the sine is one half, up or down, and either neighbour is at the distance 1/2 (R102). -/
theorem romEntry_near_of_tie {θ : Fin 360} (hθ : θ.val ∈ tieDegrees) (tie : Config.SineTieLow) :
    |((romEntry tie θ).toNat : ℝ) - (Real.sin (degrees θ.val) * 127 + 128)| ≤ 1 / 2 := by
  have hcases : (θ.val = 30 ∨ θ.val = 150) ∨ (θ.val = 210 ∨ θ.val = 330) := by
    simpa [tieDegrees, or_assoc] using hθ
  rcases hcases with hupper | hlower
  · rw [romEntry_of_upper_tie hupper, sin_degrees_of_upper_tie hupper]
    norm_num
  · rw [romEntry_of_lower_tie hlower, sin_degrees_of_lower_tie hlower]
    cases tie <;> norm_num [tieValue]

/-- Settles O42: at the ties by their exact sine, at every other degree by the rational turn. -/
theorem romIsTheRoundedSine : Obligations.RomIsTheRoundedSine := by
  intro tie θ
  by_cases hθ : θ.val ∈ tieDegrees
  · exact romEntry_near_of_tie hθ tie
  · have hne : ¬(θ.val = 210 ∨ θ.val = 330) := fun h => hθ (by rcases h with h | h <;> rw [h] <;> decide)
    rw [romEntry_of_ne_tie hne tie .tie64]
    exact romEntry_near_of_ne_tie hθ

end Sys2Proof.Machine

/-! The three pulses that occur (R105 to R108), and `PULSE` (R115, R116). -/

namespace Sys2Proof.Machine

/-- Settles O44: the last index of a pulse is the largest, and it is below a whole turn. -/
theorem pulseIndexNeverWraps : Obligations.PulseIndexNeverWraps := by
  intro k L hk
  constructor
  · exact Nat.div_le_div_right (by omega)
  · exact Nat.le_of_lt_succ (Nat.div_lt_of_lt_mul (by omega))

@[simp] theorem pulseLen_zero_zero : pulseLen 0#1 0#1 = 36 := rfl
@[simp] theorem pulseLen_zero_one : pulseLen 0#1 1#1 = 18 := rfl
@[simp] theorem pulseLen_one_zero : pulseLen 1#1 0#1 = 18 := rfl
@[simp] theorem pulseLen_one_one : pulseLen 1#1 1#1 = 9 := rfl

/-- At 43200 samples per second no pulse length is rounded (R105). -/
theorem pulseLen_mul (b f : BitVec 1) : pulseLen b f * (baudOf b * freqOf f) = 43200 * 1200 := by
  rcases bit_cases b with rfl | rfl <;> rcases bit_cases f with rfl | rfl <;> rfl

/-- Settles O45: the formula is the model's own, and its four values are evaluated. -/
theorem pulseLengthTable : Obligations.PulseLengthTable :=
  ⟨fun _ _ _ => rfl, fun b f => ⟨rfl, pulseLen_mul b f⟩, pulseLen_zero_zero, pulseLen_zero_one, pulseLen_one_zero,
    pulseLen_one_one, rfl, rfl, rfl, rfl⟩

theorem pulseLen_values (b f : BitVec 1) : pulseLen b f = 36 ∨ pulseLen b f = 18 ∨ pulseLen b f = 9 := by
  rcases bit_cases b with rfl | rfl <;> rcases bit_cases f with rfl | rfl <;> simp

theorem bitSeq_zero (tie : Config.SineTieLow) (b : BitVec 1) : bitSeq tie b 0#1 = pulseWave tie (pulseLen b 0#1) := rfl

theorem bitSeq_one (tie : Config.SineTieLow) (b : BitVec 1) :
    bitSeq tie b 1#1 = pulseWave tie (pulseLen b 1#1) ++ pulseWave tie (pulseLen b 1#1) := rfl

/-- A pulse whose length divides a whole turn reads the ROM at equal steps (R108). -/
theorem romIndex_of_mul_eq {k L d : ℕ} (hL : 0 < L) (hd : L * d = 360) : romIndex k L = d * k := by
  rw [romIndex, ← hd, Nat.mul_left_comm, Nat.mul_div_cancel_left _ hL, Nat.mul_comm]

theorem pulseWave_36 : pulseWave .tie64 36 =
    [128, 150, 171, 192, 210, 225, 238, 247, 253, 255, 253, 247, 238, 225, 210, 192, 171, 150, 128, 106, 85, 64, 46, 31,
     18, 9, 3, 1, 3, 9, 18, 31, 46, 64, 85, 106] := by decide +kernel

theorem pulseWave_18 : pulseWave .tie64 18 =
    [128, 171, 210, 238, 253, 253, 238, 210, 171, 128, 85, 46, 18, 3, 3, 18, 46, 85] := by decide +kernel

theorem pulseWave_9 : pulseWave .tie64 9 = [128, 210, 253, 238, 171, 85, 18, 3, 46] := by decide +kernel

/-- Settles O46: 36, 18 and 9 divide a whole turn, and steps of 20 and 40 degrees pass over the ties. -/
theorem pulseWaveforms : Obligations.PulseWaveforms := by
  have hindex36 (k : ℕ) : romIndex k 36 = 10 * k := romIndex_of_mul_eq (by decide) rfl
  have hindex18 (k : ℕ) : romIndex k 18 = 20 * k := romIndex_of_mul_eq (by decide) rfl
  have hindex9 (k : ℕ) : romIndex k 9 = 40 * k := romIndex_of_mul_eq (by decide) rfl
  refine ⟨pulseLen_values, bitSeq_zero .tie64 0#1, bitSeq_one .tie64 0#1, bitSeq_zero .tie64 1#1, bitSeq_one .tie64 1#1,
    fun k _ => hindex36 k, fun k _ => hindex18 k, fun k _ => hindex9 k, pulseWave_36, pulseWave_18, pulseWave_9, rfl,
    fun k _ => ?_, fun k _ => ?_⟩
  · rw [hindex18]
    simp
    omega
  · rw [hindex9]
    simp
    omega

/-- The sum of the values of the samples. -/
def sampleSum (ss : List Sample) : ℕ := (ss.map BitVec.toNat).sum

theorem sampleSum_pulseWave_36 : sampleSum (pulseWave .tie64 36) = 4608 := by
  rw [pulseWave_36]
  rfl

theorem sampleSum_pulseWave_18 : sampleSum (pulseWave .tie64 18) = 2304 := by
  rw [pulseWave_18]
  rfl

theorem sampleSum_pulseWave_9 : sampleSum (pulseWave .tie64 9) = 1152 := by
  rw [pulseWave_9]
  rfl

/-- Every pulse has zero mean about the bias (R116). -/
theorem sampleSum_pulse (b f : BitVec 1) :
    sampleSum (commandSamples .tie64 b (.pulse f)) = 128 * pulseLen b f := by
  rw [commandSamples_pulse]
  rcases pulseLen_values b f with h | h | h <;> rw [h]
  · exact sampleSum_pulseWave_36
  · exact sampleSum_pulseWave_18
  · exact sampleSum_pulseWave_9

/-- Settles O47: a `PULSE` emits the pulse of its length, and the sums are those of the three waveforms. -/
theorem pulseSampleSums : Obligations.PulseSampleSums :=
  ⟨rfl, rfl, rfl, rfl, sampleSum_pulseWave_36, sampleSum_pulseWave_18, sampleSum_pulseWave_9,
    fun b f => ⟨pulseWave_length _ _, sampleSum_pulse b f⟩⟩

theorem exec_pulse (f : BitVec 1) (s : State) : exec (.pulse f) s = .next (s.loadPulse f) := rfl

/-- Settles O37: the one record update of `loadPulse`. -/
theorem pulseLoadsOnePulse : Obligations.PulseLoadsOnePulse := by
  intro f s
  rw [exec_pulse]
  rfl

end Sys2Proof.Machine

/-! `SILENCE` (R110, R112). -/

namespace Sys2Proof.Machine

theorem exec_silence (n : BitVec 28) (s : State) : exec (.silence n) s = .next (s.loadSilence n) := rfl

theorem State.loadSilence_zero (s : State) : s.loadSilence 0#28 = s := if_pos rfl

theorem State.loadSilence_of_ne_zero (s : State) {n : BitVec 28} (hn : n ≠ 0#28) :
    s.loadSilence n = s.startSilence n := if_neg hn

/-- Settles O36: the two branches of `loadSilence`. -/
theorem silenceLoadsItsCount : Obligations.SilenceLoadsItsCount := by
  intro n s
  constructor
  · intro hn
    rw [exec_silence, State.loadSilence_of_ne_zero s hn]
    rfl
  · rw [exec_silence, State.loadSilence_zero]

/-- `SILENCE` commands emit a run of zero amplitude as long as their counts together (R110, R112). -/
theorem streamOf_silences (tie : Config.SineTieLow) (b : BitVec 1) (cs : List (BitVec 28)) :
    streamOf tie b (cs.map fun c => encode (.silence c)) =
      repeatSeq (cs.map BitVec.toNat).sum [Config.dcBias] := by
  have hstream := streamOf_map_counts (tie := tie) (b := b) (kind := .silence) (k := 1) (x := [Config.dcBias])
    (by simp) (by simp) cs
  rwa [Nat.mul_one] at hstream

/-- Settles O48: both streams depend on the sum of the counts only, which the field holds. -/
theorem silenceRunsConcatenate : Obligations.SilenceRunsConcatenate := by
  intro tie b a c hsum
  have hsums : ([a, c].map BitVec.toNat).sum = ([BitVec.ofNat 28 (a.toNat + c.toNat)].map BitVec.toNat).sum := by
    rw [List.map_singleton, List.sum_singleton, BitVec.toNat_ofNat, Nat.mod_eq_of_lt hsum]
    simp
  calc streamOf tie b [encode (.silence a), encode (.silence c)]
      = repeatSeq ([a, c].map BitVec.toNat).sum [Config.dcBias] := streamOf_silences tie b [a, c]
    _ = repeatSeq ([BitVec.ofNat 28 (a.toNat + c.toNat)].map BitVec.toNat).sum [Config.dcBias] := by rw [hsums]
    _ = streamOf tie b [encode (.silence (BitVec.ofNat 28 (a.toNat + c.toNat)))] :=
      (streamOf_silences tie b [BitVec.ofNat 28 (a.toNat + c.toNat)]).symm

end Sys2Proof.Machine

/-! Bits and frames (41_framing.md R130 to R153): streams of bit commands, the layout of a frame and its reading by the
reference decoder, sync tones, and what `BIT`, `BYTE` and `SYNC` load. -/

/-! Runs of bits. -/

namespace Sys2Proof.Machine

@[simp] theorem bitTime_zero : bitTime 0#1 = 36 := rfl
@[simp] theorem bitTime_one : bitTime 1#1 = 18 := rfl

/-- Settles O49: both bits last one bit-time, and the general formula is evaluated at 22050 samples per second. -/
theorem bitDurationsAreEqual : Obligations.BitDurationsAreEqual := by
  refine ⟨fun tie b => ⟨?_, (bitSeq_length tie b 0#1).symm, rfl⟩, bitTime_zero, bitTime_one, rfl, rfl⟩
  rw [bitSeq_length, bitSeq_length]

section
variable (tie : Config.SineTieLow) (b : BitVec 1)

theorem bits_length (vs : List (BitVec 1)) : (vs.flatMap (bitSeq tie b)).length = vs.length * bitTime b := by
  simp [List.length_flatMap]

/-- The first window of a run of bits is its first bit (R133). -/
theorem take_bits_cons (v : BitVec 1) (vs : List (BitVec 1)) :
    ((v :: vs).flatMap (bitSeq tie b)).take (bitTime b) = bitSeq tie b v := by
  rw [List.flatMap_cons, List.take_left' (bitSeq_length tie b v)]

/-- The windows after the first are those of the other bits. -/
theorem drop_bits_cons (v : BitVec 1) (vs : List (BitVec 1)) :
    ((v :: vs).flatMap (bitSeq tie b)).drop (bitTime b) = vs.flatMap (bitSeq tie b) := by
  rw [List.flatMap_cons, List.drop_left' (bitSeq_length tie b v)]

/-- The bit at position `j` of a run starts at sample `j · T_BIT`. -/
theorem drop_bits (vs : List (BitVec 1)) (j : Nat) :
    (vs.flatMap (bitSeq tie b)).drop (j * bitTime b) = (vs.drop j).flatMap (bitSeq tie b) := by
  induction j generalizing vs with
  | zero => simp
  | succ j ih =>
    cases vs with
    | nil => simp
    | cons v vs => rw [Nat.succ_mul, Nat.add_comm, ← List.drop_drop, drop_bits_cons, ih, List.drop_succ_cons]

/-- The window at position `j` of a run of bits is the bit there. -/
theorem window_bits {vs : List (BitVec 1)} {j : Nat} (hj : j < vs.length) :
    ((vs.flatMap (bitSeq tie b)).drop (j * bitTime b)).take (bitTime b) = bitSeq tie b vs[j] := by
  rw [drop_bits, List.drop_eq_getElem_cons hj, take_bits_cons]

/-- Commands that leave the baud selection emit their samples one after the other at one rate (R61). -/
theorem streamOf_map_encode {is : List Instr} (hbaud : ∀ i ∈ is, ∀ b', i ≠ .setbaud b') :
    streamOf tie b (is.map encode) = is.flatMap (commandSamples tie b) := by
  induction is with
  | nil => rfl
  | cons i is ih =>
    obtain ⟨hi, his⟩ := List.forall_mem_cons.1 hbaud
    have hdec : decode (encode i) = .ok i := decodeOfEncode i
    have hkeep : baudAfter b (encode i) = b :=
      baudAfter_of_not_setbaud b fun b' h => hi b' (Except.ok.inj (hdec.symm.trans h))
    rw [List.map_cons, streamOf_cons, wordSamples_ok hdec, hkeep, ih his, List.flatMap_cons]

/-- A run of `BIT` commands emits its bits (R135). -/
theorem streamOf_bits (vs : List (BitVec 1)) :
    streamOf tie b ((vs.map Instr.bit).map encode) = vs.flatMap (bitSeq tie b) := by
  rw [streamOf_map_encode tie b (by simp), List.flatMap_map]
  rfl

theorem streamOf_singleton {i : Instr} (hi : ∀ b', i ≠ .setbaud b') :
    streamOf tie b [encode i] = commandSamples tie b i := by
  have hstream := streamOf_map_encode tie b (is := [i]) (by simpa using hi)
  simpa using hstream

end

/-- Settles O56: the two bits by their pulses (R131, R135). -/
theorem bitIsOneOrTwoPulses : Obligations.BitIsOneOrTwoPulses := by
  intro tie b
  constructor
  · have hpulses := streamOf_map_encode tie b (is := [.pulse 1#1, .pulse 1#1]) (by simp)
    calc streamOf tie b [encode (.bit 1#1)]
        = pulseWave tie (pulseLen b 1#1) ++ pulseWave tie (pulseLen b 1#1) := by
          rw [streamOf_singleton tie b (by simp), commandSamples_bit, bitSeq_one]
      _ = streamOf tie b [encode (.pulse 1#1), encode (.pulse 1#1)] := by simpa using hpulses.symm
  · rw [streamOf_singleton tie b (by simp), streamOf_singleton tie b (by simp), commandSamples_bit, bitSeq_zero,
      commandSamples_pulse]

/-! What `BIT` loads (R135). -/

theorem exec_bit (v : BitVec 1) (s : State) : exec (.bit v) s = .next (s.loadBits (v.setWidth 11) v 0#29) := rfl

theorem setWidth_bit_eq_append : ∀ v : BitVec 1, v.setWidth 11 = 0#10 ++ v := by decide

/-- Settles O38: `loadBits` with the bit zero-extended. -/
theorem bitLoadsOneBit : Obligations.BitLoadsOneBit := by
  intro v s
  rw [exec_bit, setWidth_bit_eq_append]
  rfl

end Sys2Proof.Machine

/-! The frame of a byte (R140 to R143), and `BYTE`. -/

namespace Sys2Proof.Machine

theorem bitAt_frameOf_data (d : BitVec 8) {i : Nat} (hi : i < 8) : bitAt (frameOf d) (i + 1) = bitAt d i := by
  unfold frameOf bitAt
  rw [BitVec.extractLsb'_append_eq_of_le (by omega), Nat.add_sub_cancel,
    BitVec.extractLsb'_append_eq_of_add_le (by omega)]

/-- The bits of a frame above its data bits are the two stop bits (R140). -/
theorem bitAt_frameOf_stop (d : BitVec 8) {j : Nat} (hj : 9 ≤ j) : bitAt (frameOf d) j = bitAt 0b11#2 (j - 9) := by
  unfold frameOf bitAt
  rw [BitVec.extractLsb'_append_eq_of_le (by omega), BitVec.extractLsb'_append_eq_of_le (by omega), Nat.sub_sub]

theorem bitAt_frameOf_nine (d : BitVec 8) : bitAt (frameOf d) 9 = 1#1 := bitAt_frameOf_stop d le_rfl

theorem bitAt_frameOf_ten (d : BitVec 8) : bitAt (frameOf d) 10 = 1#1 := bitAt_frameOf_stop d (by decide)

/-- The bit of the frame at each bit-time position (R141). -/
theorem bitAt_frameOf (d : BitVec 8) {j : Nat} (hj : j < 11) :
    bitAt (frameOf d) j = if j = 0 then 0#1 else if j ≤ 8 then bitAt d (j - 1) else 1#1 := by
  split
  · next h => rw [h, bitAt_frameOf_zero]
  · split
    · have hdata := bitAt_frameOf_data d (i := j - 1) (by omega)
      rwa [Nat.sub_add_cancel (by omega)] at hdata
    · obtain rfl | rfl : j = 9 ∨ j = 10 := by omega
      · exact bitAt_frameOf_nine d
      · exact bitAt_frameOf_ten d

/-- The bits of a frame in the order of the line: start bit, data bits from `D[0]`, stop bits (R140). -/
def frameBits (d : BitVec 8) : List (BitVec 1) := 0#1 :: (List.range 8).map (bitAt d) ++ [1#1, 1#1]

theorem map_bitAt_frameOf (d : BitVec 8) : (List.range 11).map (bitAt (frameOf d)) = frameBits d := by
  have hdata : ((List.range 8).map fun i => bitAt (frameOf d) (i + 1)) = (List.range 8).map (bitAt d) :=
    List.map_congr_left fun i hi => bitAt_frameOf_data d (List.mem_range.1 hi)
  calc (List.range 11).map (bitAt (frameOf d))
      = bitAt (frameOf d) 0 :: ((List.range 8).map fun i => bitAt (frameOf d) (i + 1)) ++
          [bitAt (frameOf d) 9, bitAt (frameOf d) 10] := rfl
    _ = frameBits d := by rw [bitAt_frameOf_zero, hdata, bitAt_frameOf_nine, bitAt_frameOf_ten, frameBits]

section
variable (tie : Config.SineTieLow) (b : BitVec 1)

theorem frameSeq_eq_flatMap (frame : BitVec 11) :
    frameSeq tie b frame = ((List.range 11).map (bitAt frame)).flatMap (bitSeq tie b) := by
  rw [List.flatMap_map]
  rfl

theorem commandSamples_byte_eq (d : BitVec 8) :
    commandSamples tie b (.byte d) = (frameBits d).flatMap (bitSeq tie b) := by
  rw [commandSamples_byte, frameSeq_eq_flatMap, map_bitAt_frameOf]

theorem commandSamples_byte_length (d : BitVec 8) : (commandSamples tie b (.byte d)).length = 11 * bitTime b := by
  rw [commandSamples_byte_eq, bits_length]
  rfl

end

/-- Settles O50: a window of the frame is the bit at its position. -/
theorem frameLayout : Obligations.FrameLayout := by
  intro tie b d j hj
  rw [commandSamples_byte, frameSeq_eq_flatMap, window_bits tie b (by simpa using hj), List.getElem_map,
    List.getElem_range, bitAt_frameOf d hj]

/-- Settles O51: a frame is eleven bit-times, of 36 or 18 samples. -/
theorem byteDurationIndependentOfValue : Obligations.ByteDurationIndependentOfValue := fun tie b d =>
  ⟨commandSamples_byte_length tie b d, commandSamples_byte_length tie 0#1 d, commandSamples_byte_length tie 1#1 d⟩

/-- Settles O52: both streams are the bits of the frame. -/
theorem byteIsElevenBits : Obligations.ByteIsElevenBits := by
  intro tie b d
  calc streamOf tie b [encode (.byte d)]
      = (frameBits d).flatMap (bitSeq tie b) := by
        rw [streamOf_singleton tie b (by simp), commandSamples_byte_eq]
    _ = streamOf tie b (((frameBits d).map Instr.bit).map encode) := (streamOf_bits tie b (frameBits d)).symm

theorem exec_byte (d : BitVec 8) (s : State) : exec (.byte d) s = .next (s.loadBits (frameOf d) 0#1 10#29) := rfl

/-- Settles O39: `loadBits` with the frame, whose bits are those of R141. -/
theorem byteLoadsItsFrame : Obligations.ByteLoadsItsFrame := by
  intro d s
  refine ⟨frameOf d, ?_, bitAt_frameOf_zero d, fun _ => bitAt_frameOf_data d, bitAt_frameOf_nine d,
    bitAt_frameOf_ten d⟩
  rw [exec_byte]
  rfl

end Sys2Proof.Machine

/-! The reference decoder (R144). -/

namespace Sys2Proof.Machine

section
variable (tie : Config.SineTieLow) (b : BitVec 1)

/-- A bit starts with the pulse at its own frequency, so its early samples are that pulse's (R106, R130, R131). -/
theorem bitSeq_getElem?_of_lt {v : BitVec 1} {k : Nat} (hk : k < pulseLen b v) :
    (bitSeq tie b v)[k]? = some (romEntry tie ⟨romIndex k (pulseLen b v), romIndex_lt hk⟩) := by
  rw [bitSeq_eq_pulses, List.getElem?_append_left (by simpa using hk),
    List.getElem?_eq_getElem (by simpa using hk), pulseWave_getElem]

/-- The second samples are no ties, so they do not depend on `SINE_TIE_LOW` (R102, R144). -/
theorem bitSeq_seconds : (bitSeq tie 0#1 0#1)[1]? = some 150#8 ∧ (bitSeq tie 0#1 1#1)[1]? = some 171#8 ∧
    (bitSeq tie 1#1 0#1)[1]? = some 171#8 ∧ (bitSeq tie 1#1 1#1)[1]? = some 210#8 :=
  ⟨bitSeq_getElem?_of_lt tie 0#1 (by decide), bitSeq_getElem?_of_lt tie 0#1 (by decide),
    bitSeq_getElem?_of_lt tie 1#1 (by decide), bitSeq_getElem?_of_lt tie 1#1 (by decide)⟩

/-- The two bits differ at their second sample (R144). -/
theorem bitSeq_zero_ne_one : bitSeq tie b 0#1 ≠ bitSeq tie b 1#1 := by
  obtain ⟨h00, h01, h10, h11⟩ := bitSeq_seconds tie
  intro heq
  rcases bit_cases b with rfl | rfl
  · rw [heq, h01] at h00
    exact absurd h00 (by decide)
  · rw [heq, h11] at h10
    exact absurd h10 (by decide)

theorem windowBit_bitSeq (v : BitVec 1) : windowBit tie b (bitSeq tie b v) = some v := by
  rcases bit_cases v with rfl | rfl
  · exact if_pos rfl
  · rw [windowBit, if_neg (bitSeq_zero_ne_one tie b).symm, if_pos rfl]

/-- The windows of a run of bits read back as the bits. -/
theorem readWindows_bits (vs : List (BitVec 1)) :
    readWindows tie b vs.length (vs.flatMap (bitSeq tie b)) = some vs := by
  induction vs with
  | nil => rfl
  | cons v vs ih => rw [List.length_cons, readWindows, take_bits_cons, drop_bits_cons, windowBit_bitSeq, ih]

end

theorem toNat_bitAt {w : Nat} (x : BitVec w) (i : Nat) : (bitAt x i).toNat = x.toNat / 2 ^ i % 2 := by
  rw [bitAt, BitVec.extractLsb'_toNat, Nat.shiftRight_eq_div_pow, Nat.pow_one]

/-- Consecutive bits of a value, the first least significant, are a field of it. -/
theorem valueOfBits_map_bitAt {w : Nat} (x : BitVec w) (n k : Nat) :
    valueOfBits ((List.range n).map fun i => bitAt x (k + i)) = x.toNat / 2 ^ k % 2 ^ n := by
  induction n generalizing k with
  | zero => simp [valueOfBits, Nat.mod_one]
  | succ n ih =>
    have htail : ((List.range n).map fun i => bitAt x (k + (i + 1))) =
        (List.range n).map fun i => bitAt x (k + 1 + i) :=
      List.map_congr_left fun i _ => by rw [Nat.add_right_comm, Nat.add_assoc]
    calc valueOfBits ((List.range (n + 1)).map fun i => bitAt x (k + i))
        = (bitAt x k).toNat + 2 * valueOfBits ((List.range n).map fun i => bitAt x (k + (i + 1))) := by
          rw [List.range_succ_eq_map, List.map_cons, List.map_map]
          rfl
      _ = x.toNat / 2 ^ k % 2 + 2 * (x.toNat / 2 ^ k / 2 % 2 ^ n) := by
          rw [htail, ih, toNat_bitAt, Nat.pow_succ, Nat.div_div_eq_div_mul]
      _ = x.toNat / 2 ^ k % 2 ^ (n + 1) := by rw [Nat.pow_succ', Nat.mod_mul]

/-- The data bits of a frame have the byte as their value. -/
theorem valueOfBits_dataBits (d : BitVec 8) : valueOfBits ((List.range 8).map (bitAt d)) = d.toNat := by
  have hvalue := valueOfBits_map_bitAt d 8 0
  rw [Nat.pow_zero, Nat.div_one, Nat.mod_eq_of_lt d.isLt] at hvalue
  simpa using hvalue

/-- The data bits of a frame are those at positions 1 to 8 (R141). -/
theorem take_drop_frameBits (d : BitVec 8) : ((frameBits d).drop 1).take 8 = (List.range 8).map (bitAt d) := rfl

theorem decodeFrame_byte (tie : Config.SineTieLow) (b : BitVec 1) (d : BitVec 8) :
    decodeFrame tie b (commandSamples tie b (.byte d)) = some d := by
  have hread : readWindows tie b 11 (commandSamples tie b (.byte d)) = some (frameBits d) := by
    rw [commandSamples_byte_eq]
    exact readWindows_bits tie b (frameBits d)
  rw [decodeFrame, if_pos (commandSamples_byte_length tie b d), hread, Option.map_some, take_drop_frameBits,
    valueOfBits_dataBits, BitVec.ofNat_toNat, BitVec.setWidth_eq]

/-- Settles O53: the windows differ at their second sample, so each reads back as its bit. -/
theorem frameDecodesBack : Obligations.FrameDecodesBack :=
  ⟨bitSeq_zero_ne_one, bitSeq_seconds, decodeFrame_byte⟩

end Sys2Proof.Machine

/-! Sync tones (R150 to R153). -/

namespace Sys2Proof.Machine

/-- No count of bits is rounded: `M · 1200 = N · BAUD` (R151). -/
theorem syncCount_mul (b : BitVec 1) (n : BitVec 28) : syncCount b n * 1200 = n.toNat * baudOf b := by
  have hdvd : 1200 ∣ baudOf b := by rcases bit_cases b with rfl | rfl <;> decide
  exact Nat.div_mul_cancel (hdvd.mul_left n.toNat)

theorem syncCount_zero (n : BitVec 28) : syncCount 0#1 n = n.toNat := by
  have hmul := syncCount_mul 0#1 n
  rw [baudOf_zero] at hmul
  omega

theorem syncCount_one (n : BitVec 28) : syncCount 1#1 n = 2 * n.toNat := by
  have hmul := syncCount_mul 1#1 n
  rw [baudOf_one] at hmul
  omega

/-- At either rate a tone lasts `N / 1200` seconds (R152). -/
theorem syncCount_mul_bitTime (b : BitVec 1) (n : BitVec 28) : syncCount b n * bitTime b = 36 * n.toNat := by
  rcases bit_cases b with rfl | rfl
  · rw [syncCount_zero, bitTime_zero, Nat.mul_comm]
  · rw [syncCount_one, bitTime_one]
    omega

theorem syncCount_ne_zero (b : BitVec 1) {n : BitVec 28} (hn : n ≠ 0#28) : syncCount b n ≠ 0 := by
  have hpos : n.toNat ≠ 0 := fun h => hn (BitVec.eq_of_toNat_eq h)
  rcases bit_cases b with rfl | rfl
  · rwa [syncCount_zero]
  · rw [syncCount_one]
    omega

theorem repeatSeq_two (s : List Sample) : repeatSeq 2 s = s ++ s := by
  rw [repeatSeq_succ, repeatSeq_succ, repeatSeq_zero, List.append_nil]

theorem repeatSeq_mul (m n : Nat) (s : List Sample) : repeatSeq (m * n) s = repeatSeq n (repeatSeq m s) := by
  induction n with
  | zero => rfl
  | succ n ih => rw [Nat.mul_succ, Nat.add_comm, repeatSeq_add, ih, ← repeatSeq_succ]

/-- A 1 bit is two short pulses, so a tone of `M` bits is `2M` of them (R131). -/
theorem repeatSeq_bitSeq_one (tie : Config.SineTieLow) (b : BitVec 1) (m : Nat) :
    repeatSeq m (bitSeq tie b 1#1) = repeatSeq (2 * m) (pulseWave tie (pulseLen b 1#1)) := by
  rw [repeatSeq_mul, repeatSeq_two, bitSeq_one]

/-- Settles O54: `M` bit-times, each of two short pulses, with `M` exact at both rates. -/
theorem syncToneDuration : Obligations.SyncToneDuration := by
  refine ⟨fun tie b n => ?_, fun n => ⟨syncCount_zero n, syncCount_one n⟩⟩
  have hbits : (commandSamples tie b (.sync n)).length = syncCount b n * bitTime b := by
    rw [commandSamples_sync, repeatSeq_length, bitSeq_length]
  have hsamples : (commandSamples tie b (.sync n)).length = 36 * n.toNat := by rw [hbits, syncCount_mul_bitTime]
  refine ⟨hsamples, hbits, ?_, repeatSeq_bitSeq_one tie b (syncCount b n), syncCount_mul b n⟩
  rw [hsamples, Config.sampleRate]
  omega

/-- The count of bits of two tones together (R153). -/
theorem syncCount_add (bd : BitVec 1) {a b : BitVec 28} (hsum : a.toNat + b.toNat < 2 ^ 28) :
    syncCount bd (BitVec.ofNat 28 (a.toNat + b.toNat)) = syncCount bd a + syncCount bd b := by
  have hvalue : (BitVec.ofNat 28 (a.toNat + b.toNat)).toNat = a.toNat + b.toNat := by
    rw [BitVec.toNat_ofNat, Nat.mod_eq_of_lt hsum]
  rw [syncCount, syncCount, syncCount, hvalue, mul_baudOf_div, mul_baudOf_div, mul_baudOf_div, Nat.add_mul]

/-- Settles O55: both laws compare runs of 1 bits by their number. -/
theorem syncLaws : Obligations.SyncLaws := by
  constructor
  · intro tie bd a b hsum
    have htones := streamOf_map_encode tie bd (is := [.sync a, .sync b]) (by simp)
    calc streamOf tie bd [encode (.sync a), encode (.sync b)]
        = repeatSeq (syncCount bd a) (bitSeq tie bd 1#1) ++ repeatSeq (syncCount bd b) (bitSeq tie bd 1#1) := by
          simpa using htones
      _ = commandSamples tie bd (.sync (BitVec.ofNat 28 (a.toNat + b.toNat))) := by
          rw [commandSamples_sync, syncCount_add bd hsum, repeatSeq_add]
      _ = streamOf tie bd [encode (.sync (BitVec.ofNat 28 (a.toNat + b.toNat)))] :=
          (streamOf_singleton tie bd (by simp)).symm
  · intro tie bd n
    have hones := streamOf_bits tie bd (List.replicate (syncCount bd n) 1#1)
    rw [List.map_replicate, List.map_replicate, List.flatMap_replicate] at hones
    calc streamOf tie bd [encode (.sync n)]
        = repeatSeq (syncCount bd n) (bitSeq tie bd 1#1) := streamOf_singleton tie bd (by simp)
      _ = streamOf tie bd (List.replicate (syncCount bd n) (encode (.bit 1#1))) := hones.symm

/-! What `SYNC` loads (R150). -/

theorem exec_sync (n : BitVec 28) (s : State) : exec (.sync n) s = .next (s.loadOnes (syncCount s.baudSel n)) := rfl

theorem State.loadOnes_zero (s : State) : s.loadOnes 0 = s := if_pos rfl

theorem State.loadOnes_of_ne_zero (s : State) {m : Nat} (hm : m ≠ 0) :
    s.loadOnes m = s.loadBits 0x7FF#11 1#1 (BitVec.ofNat 29 (m - 1)) := if_neg hm

/-- Settles O40: the two branches of `loadOnes`, with `M - 1` in the range of `BITS_LEFT` (R32). -/
theorem syncLoadsItsOneBits : Obligations.SyncLoadsItsOneBits := by
  intro n s
  constructor
  · intro hn
    have hpos := syncCount_ne_zero s.baudSel hn
    have hle := syncCount_le s.baudSel n
    have hbits : (BitVec.ofNat 29 (syncCount s.baudSel n - 1)).toNat = syncCount s.baudSel n - 1 := by
      rw [BitVec.toNat_ofNat]
      omega
    refine ⟨BitVec.ofNat 29 (syncCount s.baudSel n - 1), ?_, ?_, ?_⟩
    · rw [exec_sync, s.loadOnes_of_ne_zero hpos]
      rfl
    · rw [hbits, Nat.sub_add_cancel (Nat.one_le_iff_ne_zero.2 hpos)]
      rfl
    · rw [hbits]
      omega
  · have hcount : syncCount s.baudSel 0#28 = 0 := by rw [syncCount, BitVec.toNat_zero, Nat.zero_mul, Nat.zero_div]
    rw [exec_sync, hcount, s.loadOnes_zero]

end Sys2Proof.Machine

/-! `SETBAUD` (42_config.md R160): what it writes, and the commands that run at the rate it selects. -/

namespace Sys2Proof.Machine

theorem exec_setbaud (b : BitVec 1) (s : State) : exec (.setbaud b) s = .next (s.setBaudSel b) := rfl

/-- The fields below bit 4 of `STATUS` add up to less than 16, so that bit is `BAUD_SEL` (R28). -/
theorem State.bitAt_statusWord_four (s : State) : bitAt s.statusWord 4 = s.baudSel := by
  have hidle : s.idle.toNat ≤ 1 := Bool.toNat_le s.idle
  have herr : s.err.toNat < 2 := s.err.isLt
  have hcode : s.errCode.toNat < 4 := s.errCode.isLt
  have hbaud : s.baudSel.toNat < 2 := s.baudSel.isLt
  apply BitVec.eq_of_toNat_eq
  rw [toNat_bitAt, State.statusWord_toNat]
  omega

@[simp] theorem State.setBaudSel_idle (s : State) (b : BitVec 1) : (s.setBaudSel b).idle = s.idle := rfl

/-- Settles O41: the one record update of `setBaudSel`, which leaves `MODE`. -/
theorem setbaudSelectsTheRate : Obligations.SetbaudSelectsTheRate := by
  intro b s
  refine ⟨s.setBaudSel b, exec_setbaud b s, rfl, (s.setBaudSel b).bitAt_statusWord_four, fun hi => ?_⟩
  have hidle : (s.setBaudSel b).idle = true := (s.setBaudSel_idle b).trans hi
  exact ⟨hidle, State.pending_of_idle ((s.setBaudSel b).idle_iff.1 hidle)⟩

section
variable (tie : Config.SineTieLow) (b : BitVec 1) (ws : List Word)

theorem streamOf_cons_setbaud (b' : BitVec 1) : streamOf tie b (encode (.setbaud b') :: ws) = streamOf tie b' ws := by
  have hdec : decode (encode (.setbaud b')) = .ok (.setbaud b') := decodeOfEncode (.setbaud b')
  rw [streamOf_cons, wordSamples_ok hdec, commandSamples_setbaud, List.nil_append, baudAfter_setbaud b hdec]

variable {i : Instr} (hi : ∀ b', i ≠ .setbaud b')
include hi

theorem baudAfter_encode_of_not_setbaud : baudAfter b (encode i) = b :=
  baudAfter_of_not_setbaud b fun b' h => hi b' (Except.ok.inj ((decodeOfEncode i).symm.trans h))

/-- The words after a command other than `SETBAUD` run at the rate it ran at (R24). -/
theorem streamOf_cons_of_not_setbaud :
    streamOf tie b (encode i :: ws) = commandSamples tie b i ++ streamOf tie b ws := by
  rw [streamOf_cons, wordSamples_ok (decodeOfEncode i), baudAfter_encode_of_not_setbaud b hi]

end

theorem commandSamples_silence_eq_replicate (tie : Config.SineTieLow) (b : BitVec 1) (n : BitVec 28) :
    commandSamples tie b (.silence n) = List.replicate n.toNat 128#8 := by
  rw [commandSamples_silence, repeatSeq_singleton, Config.dcBias]

/-- Settles O57: a `SETBAUD` word has no samples and hands on its own rate, a `SILENCE` word the rate it was given. -/
theorem setbaudActsOnLaterCommands : Obligations.SetbaudActsOnLaterCommands := by
  intro tie b b' ws
  refine ⟨streamOf_cons_setbaud tie b ws b', fun n => ?_⟩
  calc streamOf tie b (encode (.silence n) :: ws)
      = commandSamples tie b (.silence n) ++ streamOf tie b ws := streamOf_cons_of_not_setbaud tie b ws (by simp)
    _ = List.replicate n.toNat 128#8 ++ streamOf tie b ws := by rw [commandSamples_silence_eq_replicate]

end Sys2Proof.Machine

/-! Exceptions along runs (60_exceptions.md R189): what the observation of a run from a reset shows. -/

namespace Sys2Proof.Machine

/-- Along a run without a reset the baud selection is that after the words accepted (R24). -/
theorem run_baudSel {n : Nat} {s t : State} (hn : s.noReset n = true) (h : run n s = .next t) :
    t.baudSel = (acceptedWords n s).foldl baudAfter s.baudSel := by
  induction n generalizing s with
  | zero => cases h; rfl
  | succ n ih =>
    obtain ⟨u, hstep, hrun⟩ := run_succ_next h
    obtain ⟨hr, hnu⟩ := State.noReset_succ hn hstep
    rw [ih hnu hrun, step_baudSel hr hstep, acceptedWords_succ_of_step hstep, List.foldl_append]

theorem State.idle_of_runEnded {s : State} (h : s.runEnded = true) : s.idle = true := by
  rw [State.runEnded, Bool.and_eq_true] at h
  exact h.1

theorem State.applyReset_reports_none (s : State) : s.applyReset.Reports none := ⟨rfl, rfl, rfl⟩

section
variable {s : State} (hi : s.idle = true)
include hi

/-- `ERRCMD` and `STATUS` of an idle block that reports no rejection (R28, R29). -/
theorem State.Reports.errcmd_status_of_none (hs : s.Reports none) :
    s.errcmdWord = 0#32 ∧ s.statusWord.toNat = 1 + 16 * s.baudSel.toNat := by
  obtain ⟨herr, hcode, hcmd⟩ := hs
  refine ⟨hcmd, ?_⟩
  rw [State.statusWord_toNat, hi, herr, hcode]
  rfl

/-- `ERRCMD` and `STATUS` of an idle block that reports the rejection of `w` for cause `c` (R28, R29). -/
theorem State.Reports.errcmd_status_of_some {c : Cause} {w : Word} (hs : s.Reports (some (c, w))) :
    s.errcmdWord = w ∧ s.statusWord.toNat = 1 + 2 + 4 * c.code.toNat + 16 * s.baudSel.toNat := by
  obtain ⟨herr, hcode, hcmd⟩ := hs
  refine ⟨hcmd, ?_⟩
  rw [State.statusWord_toNat, hi, herr, hcode]
  rfl

end

/-- Settles O30: the stream (O27), the baud selection and the error report are each a function of the words accepted,
and an ended run is idle, so the fields of `STATUS` follow. -/
theorem observationIsFunctionOfAcceptedWords : Obligations.ObservationIsFunctionOfAcceptedWords := by
  intro n s₀ s t o hr₀ hstep hn h hobs
  obtain ⟨-, hstream⟩ := streamIsConcatenationOfCommands
  obtain ⟨-, hended, rfl⟩ := runObservation_some hobs
  have hi : t.idle = true := State.idle_of_runEnded hended
  have hsent : t.sent = streamOf s.sineTieLow s.baudSel (acceptedWords n s) := hstream n s₀ s t hr₀ hstep hn h hi
  obtain rfl := step_of_reset_next hr₀ hstep
  refine ⟨hsent, ?_⟩
  have hbaud : t.baudSel = (acceptedWords n s₀.popInput.applyReset).foldl baudAfter 0#1 := run_baudSel hn h
  have hreports : t.Reports (firstRejected (acceptedWords n s₀.popInput.applyReset)) :=
    run_reports s₀.popInput.applyReset_reports_none hn h
  rw [← hbaud]
  cases hfirst : firstRejected (acceptedWords n s₀.popInput.applyReset) with
  | none => exact State.Reports.errcmd_status_of_none hi (hfirst ▸ hreports)
  | some r => exact State.Reports.errcmd_status_of_some hi (hfirst ▸ hreports)

end Sys2Proof.Machine

/-! The events of an edge (60_exceptions.md R178, R185, R186), and the rejection action with its frame (R173, R176). -/

namespace Sys2Proof.Machine

/-! Which edge it is. -/

theorem State.cmdReady_iff (s : State) (rst : Bool) : s.cmdReady rst = true ↔ s.idle = true ∧ rst = false := by
  simp [State.cmdReady]

/-- An edge accepts a word exactly when a block that has been reset is idle and offered that word outside reset. -/
theorem edgeOf_eq_accept_iff {s : State} {w : Word} :
    edgeOf s = .ok (.accept w) ↔ s.resetDone = true ∧ s.idle = true ∧ s.pins.rst = false ∧ s.pins.cmdValid = true ∧
      w = s.pins.cmdData := by
  constructor
  · intro h
    rcases edgeOf_ok h with
      ⟨hc, -⟩ | ⟨-, -, -, -, hc⟩ | ⟨hr, hd, -, ⟨hc, -⟩ | ⟨hc, hm, hv⟩ | ⟨hc, -⟩ | ⟨hc, -⟩⟩
    case inr.inr.inr.inl => exact ⟨hd, s.idle_iff.2 hm, hr, hv, Edge.accept.inj hc⟩
    all_goals cases hc
  · rintro ⟨hd, hi, hr, hv, rfl⟩
    exact edgeOf_accept hd hi hr hv

theorem idle_of_edgeOf_transfer {s : State} (h : edgeOf s = .ok .transfer) : s.idle = false := by
  rcases edgeOf_ok h with ⟨hc, -⟩ | ⟨-, -, -, -, hc⟩ | ⟨-, -, -, ⟨-, hm, -⟩ | ⟨hc, -⟩ | ⟨hc, -⟩ | ⟨hc, -⟩⟩
  case inr.inr.inl => exact s.idle_eq_false_iff.2 hm
  all_goals cases hc

/-- An idle block that is offered no word holds its state (R186). -/
theorem edgeOf_idle_hold {s : State} (hd : s.resetDone = true) (hi : s.idle = true) (hr : s.pins.rst = false)
    (hv : s.pins.cmdValid = false) : edgeOf s = .ok .hold := by
  have hm : s.mode = M_IDLE := s.idle_iff.1 hi
  have h3 : s.mode ≠ 3#2 := by rw [hm]; decide
  simp [edgeOf, hr, hd, h3, State.smpValid, hi, hv]

/-! Acceptance. -/

theorem accept_of_ok {w : Word} {i : Instr} (h : decode w = .ok i) (s : State) : accept w s = exec i s := by
  simp only [accept, h]

theorem accept_of_error {w : Word} {c : Cause} (h : decode w = .error c) (s : State) :
    accept w s = raiseCmdError c w s := by
  simp only [accept, h]

/-- Settles O9: an accepting edge is one of a ready block, and the step is what `accept` answers for the two outcomes of
the decoder. -/
theorem acceptanceOnlyWhenIdle : Obligations.AcceptanceOnlyWhenIdle := by
  refine ⟨State.cmdReady_iff, fun s w hedge => ?_, fun s hl hready hv => ?_⟩
  · obtain ⟨-, hi, hr, hv, hw⟩ := edgeOf_eq_accept_iff.1 hedge
    exact ⟨(s.cmdReady_iff _).2 ⟨hi, hr⟩, hv, hw, State.pending_of_idle (s.idle_iff.1 hi)⟩
  · obtain ⟨hi, hr⟩ := (s.cmdReady_iff _).1 hready
    rw [step_of_acceptedWord (acceptedWord_eq_some.2 (edgeOf_accept hl.1 hi hr hv))]
    cases hdec : decode s.pins.cmdData with
    | ok i => exact accept_of_ok hdec s.popInput
    | error c => exact accept_of_error hdec s.popInput

/-! Reset first, and the two handshakes exclude each other (R178). -/

theorem State.smpValid_of_idle {s : State} (hi : s.idle = true) (rst : Bool) : s.smpValid rst = false := by
  simp [State.smpValid, hi]

/-- Settles O10: an accepting edge finds the block idle, a transferring edge finds it busy. -/
theorem resetFirstAndTransferExcludesAcceptance : Obligations.ResetFirstAndTransferExcludesAcceptance := by
  refine ⟨fun s hr => ?_, fun s rst hready => ?_, fun s w hedge => ?_, fun s hedge => ?_⟩
  · obtain ⟨hedge, hstep⟩ := step_of_reset hr
    exact ⟨hedge, _, hstep, s.popInput.applyReset_pending, rfl⟩
  · obtain ⟨hi, -⟩ := (s.cmdReady_iff rst).1 hready
    exact State.smpValid_of_idle hi rst
  · obtain ⟨-, hi, -⟩ := edgeOf_eq_accept_iff.1 hedge
    exact State.smpValid_of_idle hi _
  · simp [State.cmdReady, idle_of_edgeOf_transfer hedge]

/-- Settles O13: the edge is a hold, and an idle block has no sample to show. -/
theorem idleBlockHolds : Obligations.IdleBlockHolds := by
  intro s hl hi hr hv
  have hstep : step s = .next s.popInput := by simp only [step, edgeOf_idle_hold hl.1 hi hr hv]
  have hdata : s.smpData false = .ok 128#8 := by
    rw [State.Live.smpData hl, State.pending_of_idle (s.idle_iff.1 hi), List.headD_nil]
  exact ⟨hstep, State.smpValid_of_idle hi false, hdata⟩

/-! No stop (R170). -/

theorem raiseCmdError_of_no_error {s : State} (herr : s.err = 0#1) (c : Cause) (w : Word) :
    raiseCmdError c w s = .next (s.setError c.code w) := by
  rw [raiseCmdError, if_pos herr]

/-- A rejection after the first changes nothing (R175, R176). -/
theorem raiseCmdError_of_error {s : State} (herr : s.err = 1#1) (c : Cause) (w : Word) :
    raiseCmdError c w s = .next s := by
  rw [raiseCmdError, if_neg (by rw [herr]; decide)]

theorem accept_stepsOn (w : Word) (s : State) : ∃ t, accept w s = .next t := by
  cases hdec : decode w with
  | ok i =>
    obtain ⟨t, ht, -⟩ := exec_next i s
    exact ⟨t, (accept_of_ok hdec s).trans ht⟩
  | error c => exact ⟨_, accept_of_error hdec s⟩

/-- Settles O25: one case per event of an edge. -/
theorem liveBlockNeverStops : Obligations.LiveBlockNeverStops := by
  intro s hl
  cases hr : s.pins.rst with
  | true => exact ⟨_, (step_of_reset hr).2⟩
  | false =>
    cases hi : s.idle with
    | true =>
      cases hv : s.pins.cmdValid with
      | true =>
        obtain ⟨t, ht⟩ := accept_stepsOn s.pins.cmdData s.popInput
        exact ⟨t, (step_of_acceptedWord (acceptedWord_eq_some.2 (edgeOf_accept hl.1 hi hr hv))).trans ht⟩
      | false => exact ⟨_, (idleBlockHolds s hl hi hr hv).1⟩
    | false =>
      cases hs : s.pins.smpReady with
      | true =>
        obtain ⟨x, t, hstep, -⟩ := transferTakesFirstPendingSample s hl hi hr hs
        exact ⟨t, hstep⟩
      | false => exact ⟨_, (stalledSampleIsHeld s hl hi hr hs).1⟩

theorem State.Live.run_next {s : State} (hl : s.Live) (n : Nat) : ∃ t, run n s = .next t := by
  induction n generalizing s with
  | zero => exact ⟨s, rfl⟩
  | succ n ih =>
    obtain ⟨u, hstep⟩ := liveBlockNeverStops s hl
    obtain ⟨t, hrun⟩ := ih (step_live hl hstep)
    exact ⟨t, (run_succ_of_step hstep).trans hrun⟩

/-! Sticky errors (R176). -/

theorem State.irq_iff (s : State) : s.irq = true ↔ s.err = 1#1 := by simp [State.irq]

/-- The values of `ERR_CODE` a block can show with an error are the codes of the two causes (R26, R171). -/
theorem errCode_cases_of_error : ∀ v : BitVec 2, v ≠ 0#2 → v ≠ 3#2 →
    v = Cause.illegalOpcode.code ∨ v = Cause.reservedBits.code := by decide

/-- A block with the invariant and an error reports a rejection. -/
theorem State.ErrorOk.reports_some {s : State} (hs : s.ErrorOk) (herr : s.err = 1#1) :
    ∃ c, s.errCode = c.code ∧ s.Reports (some (c, s.errCmd)) := by
  obtain ⟨hnone, hreserved, -⟩ := hs
  have hcode : s.errCode ≠ 0#2 := fun h => absurd (hnone.2 h) (by rw [herr]; decide)
  rcases errCode_cases_of_error s.errCode hcode hreserved with hc | hc
  · exact ⟨_, hc, herr, hc, rfl⟩
  · exact ⟨_, hc, herr, hc, rfl⟩

/-- Settles O29: a live block with an error reports a rejection, which stays the first one of any run without a
reset. -/
theorem errorReportIsSticky : Obligations.ErrorReportIsSticky := by
  refine ⟨fun n s hl herr hn => ?_, fun s c w herr => raiseCmdError_of_error herr c w, State.irq_iff,
    fun s t hr hstep => ?_⟩
  · obtain ⟨t, hrun⟩ := State.Live.run_next hl n
    obtain ⟨c, hc, hreports⟩ := State.ErrorOk.reports_some (hl.2 hl.1).1 herr
    obtain ⟨hterr, htcode, htcmd⟩ : t.Reports (some (c, s.errCmd)) := run_reports hreports hn hrun
    exact ⟨t, hrun, hterr, htcode.trans hc.symm, htcmd, t.irq_iff.2 hterr⟩
  · obtain rfl := step_of_reset_next hr hstep
    exact ⟨rfl, rfl⟩

/-! The rejection action (R173). -/

/-- Settles O31: the two branches of the rejection on the state with the edge's input levels used up. -/
theorem rejectionAction : Obligations.RejectionAction := by
  intro s w c hl hedge hdec
  obtain ⟨-, hi, -⟩ := edgeOf_eq_accept_iff.1 hedge
  have hpending : s.pending = [] := State.pending_of_idle (s.idle_iff.1 hi)
  have hready : s.cmdReady false = true := (s.cmdReady_iff false).2 ⟨hi, rfl⟩
  have hstep : step s = raiseCmdError c w s.popInput :=
    (step_of_acceptedWord (acceptedWord_eq_some.2 hedge)).trans (accept_of_error hdec s.popInput)
  rcases bit_cases s.err with herr | herr
  · have hne : s.err ≠ 1#1 := by rw [herr]; decide
    exact ⟨_, hstep.trans (raiseCmdError_of_no_error (s := s.popInput) herr c w), fun _ => rfl,
      fun h => absurd h hne, hpending, rfl, rfl, hready⟩
  · have hne : s.err ≠ 0#1 := by rw [herr]; decide
    exact ⟨_, hstep.trans (raiseCmdError_of_error (s := s.popInput) herr c w), fun h => absurd h hne,
      fun _ => rfl, hpending, rfl, rfl, hready⟩

end Sys2Proof.Machine

/-! Reset (70_reset_and_hazards.md R200 to R203): the reset edge, the output ports while `rst` = 1, and the block before
its first reset edge. -/

namespace Sys2Proof.Machine

/-! What a reset block shows (R41, R203). -/

section
variable (s : State)
@[simp] theorem State.applyReset_idle : s.applyReset.idle = true := rfl
@[simp] theorem State.applyReset_statusWord : s.applyReset.statusWord = 0x00000001#32 := by
  rw [State.statusWord, State.applyReset_idle, State.applyReset_err, State.applyReset_errCode, State.applyReset_baudSel]
  rfl
@[simp] theorem State.applyReset_errcmdWord : s.applyReset.errcmdWord = 0x00000000#32 := rfl
@[simp] theorem State.applyReset_irq : s.applyReset.irq = false := rfl

/-- A second reset does no more than use up the input of its edge: the first left nothing to reset. -/
theorem State.applyReset_popInput_applyReset : s.applyReset.popInput.applyReset = s.applyReset.popInput := rfl
end

/-- Settles O14: the values of `applyReset`, which keeps `SINE_TIE_LOW` and so the ROM. -/
theorem resetEdgeGivesResetValues : Obligations.ResetEdgeGivesResetValues := by
  intro s hr
  obtain ⟨-, hstep⟩ := step_of_reset hr
  refine ⟨s.popInput.applyReset, hstep, ?_⟩
  have hmode : M_IDLE = 0#2 := rfl
  simp [hmode]

/-- Settles O15: a reset block is idle, so ready outside reset, and resetting it again leaves it as it is. -/
theorem holdingResetChangesNothingMore : Obligations.HoldingResetChangesNothingMore := by
  intro s t hr hstep
  obtain rfl := step_of_reset_next hr hstep
  have hidle : s.popInput.applyReset.idle = true := s.popInput.applyReset_idle
  refine ⟨hidle, fun hlow => (State.cmdReady_iff _ _).2 ⟨hidle, hlow⟩, fun hheld => ?_⟩
  obtain ⟨-, hagain⟩ := step_of_reset hheld
  rw [hagain, State.applyReset_popInput_applyReset]
  rfl

/-! The output ports while `rst` = 1 (R201; log 8). -/

section
variable (s : State)
@[simp] theorem State.cmdReady_true : s.cmdReady true = false := by simp [State.cmdReady]
@[simp] theorem State.smpValid_true : s.smpValid true = false := by simp [State.smpValid]
@[simp] theorem State.smpData_true : s.smpData true = .ok 128#8 := by simp [State.smpData, Config.dcBias]
end

/-- While `rst` = 1 both handshakes are closed and `smp_data` is 128, whatever the block was emitting. -/
theorem observe_true {s : State} (hf : s.observationFault = none) :
    observe s true = .ok { cmdReady := false, smpValid := false, smpData := 128#8, status := s.statusWord,
                           errcmd := s.errcmdWord, irq := s.irq } := by
  rw [observe_of_no_fault hf s.smpData_true, State.cmdReady_true, State.smpValid_true]

/-- Settles O16: the ports of a block that can be observed, at the state itself and at the one a reset edge leaves. -/
theorem outputsWhileReset : Obligations.OutputsWhileReset := by
  refine ⟨fun s hd hm hc => ?_, fun s hr => ?_, fun s t hr hstep => ?_⟩
  · exact observe_true (s.observationFault_eq_none.2 ⟨hd, hm, hc⟩)
  · obtain ⟨hedge, -⟩ := step_of_reset hr
    exact hedge
  · obtain rfl := step_of_reset_next hr hstep
    have hlive : s.popInput.applyReset.Live := s.popInput.applyReset_live
    rw [observe_true (State.Live.observationFault hlive), State.applyReset_statusWord, State.applyReset_errcmdWord,
      State.applyReset_irq]

/-! Before the first reset edge (R202; log 5). -/

section
variable {s : State} (hd : s.resetDone = false)
include hd

theorem State.observationFault_of_not_reset : s.observationFault = some .beforeReset := by
  rw [State.observationFault, if_pos hd]

/-- An edge at which the host drives a handshake input looks at a handshake output, which has no value yet. -/
theorem edgeOf_of_not_reset (hr : s.pins.rst = false) (hv : s.pins.cmdValid = true ∨ s.pins.smpReady = true) :
    edgeOf s = .error .beforeReset := by
  have hlooks : (s.pins.cmdValid || s.pins.smpReady) = true := Bool.or_eq_true_iff.2 hv
  simp [edgeOf, hr, hd, hlooks]

end

/-- Settles O17: the one fault of every observation, the edge that looks, and the first reset edge. -/
theorem noObservationBeforeFirstReset : Obligations.NoObservationBeforeFirstReset := by
  intro s hd
  have hf : s.observationFault = some .beforeReset := State.observationFault_of_not_reset hd
  refine ⟨observe_of_fault hf, runObservation_of_fault hf, fun hr hv => ?_, fun hr => ?_⟩
  · simp only [step, edgeOf_of_not_reset hd hr hv]
  · obtain ⟨-, hstep⟩ := step_of_reset hr
    exact ⟨_, hstep, s.popInput.applyReset_live⟩

end Sys2Proof.Machine

/-! The duration of each command (70_reset_and_hazards.md R220). -/

namespace Sys2Proof.Machine

section
variable (tie : Config.SineTieLow) (b : BitVec 1)

theorem wordSamples_encode (i : Instr) : wordSamples tie b (encode i) = commandSamples tie b i :=
  wordSamples_ok (decodeOfEncode i)

theorem commandSamples_silence_length (n : BitVec 28) : (commandSamples tie b (.silence n)).length = n.toNat := by
  rw [commandSamples_silence_eq_replicate, List.length_replicate]

theorem commandSamples_pulse_length (f : BitVec 1) : (commandSamples tie b (.pulse f)).length = pulseLen b f :=
  pulseWave_length tie (pulseLen b f)

theorem commandSamples_bit_length (v : BitVec 1) : (commandSamples tie b (.bit v)).length = bitTime b :=
  bitSeq_length tie b v

theorem commandSamples_sync_length (n : BitVec 28) : (commandSamples tie b (.sync n)).length = 36 * n.toNat := by
  obtain ⟨htone, -⟩ := syncToneDuration
  obtain ⟨hsamples, -⟩ := htone tie b n
  exact hsamples

end

/-- Settles O58: a command's word has the command's samples, a pulse or a number of bit-times long, and a rejected word
has none. -/
theorem commandDurations : Obligations.CommandDurations := by
  intro tie
  simp only [wordSamples_encode]
  refine ⟨commandSamples_silence_length tie, ?_, ?_, ?_, ?_, fun v => ⟨?_, ?_⟩, fun d => ⟨?_, ?_⟩,
    commandSamples_sync_length tie, fun _ _ => rfl, fun b w c hdec => ?_⟩
  · rw [commandSamples_pulse_length, pulseLen_zero_zero]
  · rw [commandSamples_pulse_length, pulseLen_one_zero]
  · rw [commandSamples_pulse_length, pulseLen_zero_one]
  · rw [commandSamples_pulse_length, pulseLen_one_one]
  · rw [commandSamples_bit_length, bitTime_zero]
  · rw [commandSamples_bit_length, bitTime_one]
  · rw [commandSamples_byte_length, bitTime_zero]
  · rw [commandSamples_byte_length, bitTime_one]
  · rw [wordSamples_error hdec, List.length_nil]

end Sys2Proof.Machine
